-- ==== Sys2Proof/Word.lean ====
section
/-! DEFINITION. The two word types of the machine (R6): the byte of a register, a memory cell or a port,
and the 16-bit word of a register pair, an index register, SP, PC or a memory address. Everything that
computes on them (byte order, sign extension, parity) stands in Decode.lean or under Machine/. -/

namespace Sys2Proof

/-- A register byte, a byte of memory, a byte of the instruction stream, or a port number (R6: data width
8 bits, I/O port address width 8 bits). -/
abbrev Byte := BitVec 8

/-- A register pair, IX, IY, SP, PC or a memory address (R6: 16 bits). -/
abbrev Word := BitVec 16

end Sys2Proof
end

