-- ==== Sys2Proof/Syntax.lean ====
section
/-! DEFINITION. The instructions: one constructor for each row of spec/opcode_table.json, first the rows that leave operand
bytes open, then the others, each in the table's order (Lean gives a constructor with arguments a small index only), named
after the row's mnemonic (`LD A,(IX+d)` is `ldAMemIx`, `IN A,(n)` is `inAPortN`); the two 4-byte second encodings ED 63 and ED 6B
of LD (nn),HL and LD HL,(nn) (R118, D32) are `ldMemNnHlEd` and `ldHlMemNnEd`. The arguments are the operand bytes a row leaves open:
`n` an immediate byte (R110), `nn` an immediate word (R111), `d` a signed displacement (R112), `e` a signed relative offset (R113). -/

namespace Sys2Proof

/-- An admitted instruction (R120). -/
inductive Instr where
  -- The base table (R102), with operand bytes
  /-- `LD BC,nn` (R170). -/
  | ldBcNn (nn : Word)
  /-- `LD B,n` (R141). -/
  | ldBN (n : Byte)
  /-- `LD C,n` (R141). -/
  | ldCN (n : Byte)
  /-- `DJNZ e` (R407). -/
  | djnzE (e : Int)
  /-- `LD DE,nn` (R170). -/
  | ldDeNn (nn : Word)
  /-- `LD D,n` (R141). -/
  | ldDN (n : Byte)
  /-- `JR e` (R403). -/
  | jrE (e : Int)
  /-- `LD E,n` (R141). -/
  | ldEN (n : Byte)
  /-- `JR NZ,e` (R404). -/
  | jrNzE (e : Int)
  /-- `LD HL,nn` (R170). -/
  | ldHlNn (nn : Word)
  /-- `LD (nn),HL` (R175). -/
  | ldMemNnHl (nn : Word)
  /-- `LD H,n` (R141). -/
  | ldHN (n : Byte)
  /-- `JR Z,e` (R404). -/
  | jrZE (e : Int)
  /-- `LD HL,(nn)` (R172). -/
  | ldHlMemNn (nn : Word)
  /-- `LD L,n` (R141). -/
  | ldLN (n : Byte)
  /-- `JR NC,e` (R404). -/
  | jrNcE (e : Int)
  /-- `LD SP,nn` (R170). -/
  | ldSpNn (nn : Word)
  /-- `LD (nn),A` (R153). -/
  | ldMemNnA (nn : Word)
  /-- `LD (HL),n` (R146). -/
  | ldMemHlN (n : Byte)
  /-- `JR C,e` (R404). -/
  | jrCE (e : Int)
  /-- `LD A,(nn)` (R150). -/
  | ldAMemNn (nn : Word)
  /-- `LD A,n` (R141). -/
  | ldAN (n : Byte)
  /-- `JP NZ,nn` (R402). -/
  | jpNzNn (nn : Word)
  /-- `JP nn` (R401). -/
  | jpNn (nn : Word)
  /-- `CALL NZ,nn` (R409). -/
  | callNzNn (nn : Word)
  /-- `ADD A,n` (R241). -/
  | addAN (n : Byte)
  /-- `JP Z,nn` (R402). -/
  | jpZNn (nn : Word)
  /-- `CALL Z,nn` (R409). -/
  | callZNn (nn : Word)
  /-- `CALL nn` (R408). -/
  | callNn (nn : Word)
  /-- `ADC A,n` (R245). -/
  | adcAN (n : Byte)
  /-- `JP NC,nn` (R402). -/
  | jpNcNn (nn : Word)
  /-- `OUT (n),A` (R437). -/
  | outPortNA (n : Byte)
  /-- `CALL NC,nn` (R409). -/
  | callNcNn (nn : Word)
  /-- `SUB n` (R249). -/
  | subN (n : Byte)
  /-- `JP C,nn` (R402). -/
  | jpCNn (nn : Word)
  /-- `IN A,(n)` (R431). -/
  | inAPortN (n : Byte)
  /-- `CALL C,nn` (R409). -/
  | callCNn (nn : Word)
  /-- `SBC A,n` (R253). -/
  | sbcAN (n : Byte)
  /-- `JP PO,nn` (R402). -/
  | jpPoNn (nn : Word)
  /-- `CALL PO,nn` (R409). -/
  | callPoNn (nn : Word)
  /-- `AND n` (R257). -/
  | andN (n : Byte)
  /-- `JP PE,nn` (R402). -/
  | jpPeNn (nn : Word)
  /-- `CALL PE,nn` (R409). -/
  | callPeNn (nn : Word)
  /-- `XOR n` (R261). -/
  | xorN (n : Byte)
  /-- `JP P,nn` (R402). -/
  | jpPNn (nn : Word)
  /-- `CALL P,nn` (R409). -/
  | callPNn (nn : Word)
  /-- `OR n` (R265). -/
  | orN (n : Byte)
  /-- `JP M,nn` (R402). -/
  | jpMNn (nn : Word)
  /-- `CALL M,nn` (R409). -/
  | callMNn (nn : Word)
  /-- `CP n` (R269). -/
  | cpN (n : Byte)
  -- The index table, IX (R116), with operand bytes
  /-- `LD IX,nn` (R171). -/
  | ldIxNn (nn : Word)
  /-- `LD (nn),IX` (R177). -/
  | ldMemNnIx (nn : Word)
  /-- `LD IX,(nn)` (R174). -/
  | ldIxMemNn (nn : Word)
  /-- `INC (IX+d)` (R274). -/
  | incMemIx (d : Int)
  /-- `DEC (IX+d)` (R277). -/
  | decMemIx (d : Int)
  /-- `LD (IX+d),n` (R147). -/
  | ldMemIxN (d : Int) (n : Byte)
  /-- `LD B,(IX+d)` (R143). -/
  | ldBMemIx (d : Int)
  /-- `LD C,(IX+d)` (R143). -/
  | ldCMemIx (d : Int)
  /-- `LD D,(IX+d)` (R143). -/
  | ldDMemIx (d : Int)
  /-- `LD E,(IX+d)` (R143). -/
  | ldEMemIx (d : Int)
  /-- `LD H,(IX+d)` (R143). -/
  | ldHMemIx (d : Int)
  /-- `LD L,(IX+d)` (R143). -/
  | ldLMemIx (d : Int)
  /-- `LD A,(IX+d)` (R143). -/
  | ldAMemIx (d : Int)
  /-- `LD (IX+d),B` (R145). -/
  | ldMemIxB (d : Int)
  /-- `LD (IX+d),C` (R145). -/
  | ldMemIxC (d : Int)
  /-- `LD (IX+d),D` (R145). -/
  | ldMemIxD (d : Int)
  /-- `LD (IX+d),E` (R145). -/
  | ldMemIxE (d : Int)
  /-- `LD (IX+d),H` (R145). -/
  | ldMemIxH (d : Int)
  /-- `LD (IX+d),L` (R145). -/
  | ldMemIxL (d : Int)
  /-- `LD (IX+d),A` (R145). -/
  | ldMemIxA (d : Int)
  /-- `ADD A,(IX+d)` (R243). -/
  | addAMemIx (d : Int)
  /-- `ADC A,(IX+d)` (R247). -/
  | adcAMemIx (d : Int)
  /-- `SUB (IX+d)` (R251). -/
  | subMemIx (d : Int)
  /-- `SBC A,(IX+d)` (R255). -/
  | sbcAMemIx (d : Int)
  /-- `AND (IX+d)` (R259). -/
  | andMemIx (d : Int)
  /-- `XOR (IX+d)` (R263). -/
  | xorMemIx (d : Int)
  /-- `OR (IX+d)` (R267). -/
  | orMemIx (d : Int)
  /-- `CP (IX+d)` (R271). -/
  | cpMemIx (d : Int)
  -- The index-bit sub-escape, IX (R117), with operand bytes
  /-- `RLC (IX+d)` (R348). -/
  | rlcMemIx (d : Int)
  /-- `RRC (IX+d)` (R351). -/
  | rrcMemIx (d : Int)
  /-- `RL (IX+d)` (R354). -/
  | rlMemIx (d : Int)
  /-- `RR (IX+d)` (R357). -/
  | rrMemIx (d : Int)
  /-- `SLA (IX+d)` (R360). -/
  | slaMemIx (d : Int)
  /-- `SRA (IX+d)` (R363). -/
  | sraMemIx (d : Int)
  /-- `SRL (IX+d)` (R366). -/
  | srlMemIx (d : Int)
  /-- `BIT 0,(IX+d)` (R382). -/
  | bit0MemIx (d : Int)
  /-- `BIT 1,(IX+d)` (R382). -/
  | bit1MemIx (d : Int)
  /-- `BIT 2,(IX+d)` (R382). -/
  | bit2MemIx (d : Int)
  /-- `BIT 3,(IX+d)` (R382). -/
  | bit3MemIx (d : Int)
  /-- `BIT 4,(IX+d)` (R382). -/
  | bit4MemIx (d : Int)
  /-- `BIT 5,(IX+d)` (R382). -/
  | bit5MemIx (d : Int)
  /-- `BIT 6,(IX+d)` (R382). -/
  | bit6MemIx (d : Int)
  /-- `BIT 7,(IX+d)` (R382). -/
  | bit7MemIx (d : Int)
  /-- `RES 0,(IX+d)` (R388). -/
  | res0MemIx (d : Int)
  /-- `RES 1,(IX+d)` (R388). -/
  | res1MemIx (d : Int)
  /-- `RES 2,(IX+d)` (R388). -/
  | res2MemIx (d : Int)
  /-- `RES 3,(IX+d)` (R388). -/
  | res3MemIx (d : Int)
  /-- `RES 4,(IX+d)` (R388). -/
  | res4MemIx (d : Int)
  /-- `RES 5,(IX+d)` (R388). -/
  | res5MemIx (d : Int)
  /-- `RES 6,(IX+d)` (R388). -/
  | res6MemIx (d : Int)
  /-- `RES 7,(IX+d)` (R388). -/
  | res7MemIx (d : Int)
  /-- `SET 0,(IX+d)` (R385). -/
  | set0MemIx (d : Int)
  /-- `SET 1,(IX+d)` (R385). -/
  | set1MemIx (d : Int)
  /-- `SET 2,(IX+d)` (R385). -/
  | set2MemIx (d : Int)
  /-- `SET 3,(IX+d)` (R385). -/
  | set3MemIx (d : Int)
  /-- `SET 4,(IX+d)` (R385). -/
  | set4MemIx (d : Int)
  /-- `SET 5,(IX+d)` (R385). -/
  | set5MemIx (d : Int)
  /-- `SET 6,(IX+d)` (R385). -/
  | set6MemIx (d : Int)
  /-- `SET 7,(IX+d)` (R385). -/
  | set7MemIx (d : Int)
  -- The index table, IY (R116), with operand bytes
  /-- `LD IY,nn` (R171). -/
  | ldIyNn (nn : Word)
  /-- `LD (nn),IY` (R177). -/
  | ldMemNnIy (nn : Word)
  /-- `LD IY,(nn)` (R174). -/
  | ldIyMemNn (nn : Word)
  /-- `INC (IY+d)` (R274). -/
  | incMemIy (d : Int)
  /-- `DEC (IY+d)` (R277). -/
  | decMemIy (d : Int)
  /-- `LD (IY+d),n` (R147). -/
  | ldMemIyN (d : Int) (n : Byte)
  /-- `LD B,(IY+d)` (R143). -/
  | ldBMemIy (d : Int)
  /-- `LD C,(IY+d)` (R143). -/
  | ldCMemIy (d : Int)
  /-- `LD D,(IY+d)` (R143). -/
  | ldDMemIy (d : Int)
  /-- `LD E,(IY+d)` (R143). -/
  | ldEMemIy (d : Int)
  /-- `LD H,(IY+d)` (R143). -/
  | ldHMemIy (d : Int)
  /-- `LD L,(IY+d)` (R143). -/
  | ldLMemIy (d : Int)
  /-- `LD A,(IY+d)` (R143). -/
  | ldAMemIy (d : Int)
  /-- `LD (IY+d),B` (R145). -/
  | ldMemIyB (d : Int)
  /-- `LD (IY+d),C` (R145). -/
  | ldMemIyC (d : Int)
  /-- `LD (IY+d),D` (R145). -/
  | ldMemIyD (d : Int)
  /-- `LD (IY+d),E` (R145). -/
  | ldMemIyE (d : Int)
  /-- `LD (IY+d),H` (R145). -/
  | ldMemIyH (d : Int)
  /-- `LD (IY+d),L` (R145). -/
  | ldMemIyL (d : Int)
  /-- `LD (IY+d),A` (R145). -/
  | ldMemIyA (d : Int)
  /-- `ADD A,(IY+d)` (R243). -/
  | addAMemIy (d : Int)
  /-- `ADC A,(IY+d)` (R247). -/
  | adcAMemIy (d : Int)
  /-- `SUB (IY+d)` (R251). -/
  | subMemIy (d : Int)
  /-- `SBC A,(IY+d)` (R255). -/
  | sbcAMemIy (d : Int)
  /-- `AND (IY+d)` (R259). -/
  | andMemIy (d : Int)
  /-- `XOR (IY+d)` (R263). -/
  | xorMemIy (d : Int)
  /-- `OR (IY+d)` (R267). -/
  | orMemIy (d : Int)
  /-- `CP (IY+d)` (R271). -/
  | cpMemIy (d : Int)
  -- The index-bit sub-escape, IY (R117), with operand bytes
  /-- `RLC (IY+d)` (R348). -/
  | rlcMemIy (d : Int)
  /-- `RRC (IY+d)` (R351). -/
  | rrcMemIy (d : Int)
  /-- `RL (IY+d)` (R354). -/
  | rlMemIy (d : Int)
  /-- `RR (IY+d)` (R357). -/
  | rrMemIy (d : Int)
  /-- `SLA (IY+d)` (R360). -/
  | slaMemIy (d : Int)
  /-- `SRA (IY+d)` (R363). -/
  | sraMemIy (d : Int)
  /-- `SRL (IY+d)` (R366). -/
  | srlMemIy (d : Int)
  /-- `BIT 0,(IY+d)` (R382). -/
  | bit0MemIy (d : Int)
  /-- `BIT 1,(IY+d)` (R382). -/
  | bit1MemIy (d : Int)
  /-- `BIT 2,(IY+d)` (R382). -/
  | bit2MemIy (d : Int)
  /-- `BIT 3,(IY+d)` (R382). -/
  | bit3MemIy (d : Int)
  /-- `BIT 4,(IY+d)` (R382). -/
  | bit4MemIy (d : Int)
  /-- `BIT 5,(IY+d)` (R382). -/
  | bit5MemIy (d : Int)
  /-- `BIT 6,(IY+d)` (R382). -/
  | bit6MemIy (d : Int)
  /-- `BIT 7,(IY+d)` (R382). -/
  | bit7MemIy (d : Int)
  /-- `RES 0,(IY+d)` (R388). -/
  | res0MemIy (d : Int)
  /-- `RES 1,(IY+d)` (R388). -/
  | res1MemIy (d : Int)
  /-- `RES 2,(IY+d)` (R388). -/
  | res2MemIy (d : Int)
  /-- `RES 3,(IY+d)` (R388). -/
  | res3MemIy (d : Int)
  /-- `RES 4,(IY+d)` (R388). -/
  | res4MemIy (d : Int)
  /-- `RES 5,(IY+d)` (R388). -/
  | res5MemIy (d : Int)
  /-- `RES 6,(IY+d)` (R388). -/
  | res6MemIy (d : Int)
  /-- `RES 7,(IY+d)` (R388). -/
  | res7MemIy (d : Int)
  /-- `SET 0,(IY+d)` (R385). -/
  | set0MemIy (d : Int)
  /-- `SET 1,(IY+d)` (R385). -/
  | set1MemIy (d : Int)
  /-- `SET 2,(IY+d)` (R385). -/
  | set2MemIy (d : Int)
  /-- `SET 3,(IY+d)` (R385). -/
  | set3MemIy (d : Int)
  /-- `SET 4,(IY+d)` (R385). -/
  | set4MemIy (d : Int)
  /-- `SET 5,(IY+d)` (R385). -/
  | set5MemIy (d : Int)
  /-- `SET 6,(IY+d)` (R385). -/
  | set6MemIy (d : Int)
  /-- `SET 7,(IY+d)` (R385). -/
  | set7MemIy (d : Int)
  -- The ED table (R118), with operand bytes
  /-- `LD (nn),BC` (R176). -/
  | ldMemNnBc (nn : Word)
  /-- `LD BC,(nn)` (R173). -/
  | ldBcMemNn (nn : Word)
  /-- `LD (nn),DE` (R176). -/
  | ldMemNnDe (nn : Word)
  /-- `LD DE,(nn)` (R173). -/
  | ldDeMemNn (nn : Word)
  /-- `LD (nn),HL` (R176). -/
  | ldMemNnHlEd (nn : Word)
  /-- `LD HL,(nn)` (R173). -/
  | ldHlMemNnEd (nn : Word)
  /-- `LD (nn),SP` (R176). -/
  | ldMemNnSp (nn : Word)
  /-- `LD SP,(nn)` (R173). -/
  | ldSpMemNn (nn : Word)
  -- The base table (R102)
  /-- `NOP` (R305). -/
  | nop
  /-- `LD (BC),A` (R151). -/
  | ldMemBcA
  /-- `INC BC` (R326). -/
  | incBc
  /-- `INC B` (R272). -/
  | incB
  /-- `DEC B` (R275). -/
  | decB
  /-- `RLCA` (R342). -/
  | rlca
  /-- `EX AF,AF'` (R201). -/
  | exAfAf
  /-- `ADD HL,BC` (R322). -/
  | addHlBc
  /-- `LD A,(BC)` (R148). -/
  | ldAMemBc
  /-- `DEC BC` (R328). -/
  | decBc
  /-- `INC C` (R272). -/
  | incC
  /-- `DEC C` (R275). -/
  | decC
  /-- `RRCA` (R344). -/
  | rrca
  /-- `LD (DE),A` (R152). -/
  | ldMemDeA
  /-- `INC DE` (R326). -/
  | incDe
  /-- `INC D` (R272). -/
  | incD
  /-- `DEC D` (R275). -/
  | decD
  /-- `RLA` (R343). -/
  | rla
  /-- `ADD HL,DE` (R322). -/
  | addHlDe
  /-- `LD A,(DE)` (R149). -/
  | ldAMemDe
  /-- `DEC DE` (R328). -/
  | decDe
  /-- `INC E` (R272). -/
  | incE
  /-- `DEC E` (R275). -/
  | decE
  /-- `RRA` (R345). -/
  | rra
  /-- `INC HL` (R326). -/
  | incHl
  /-- `INC H` (R272). -/
  | incH
  /-- `DEC H` (R275). -/
  | decH
  /-- `DAA` (R300). -/
  | daa
  /-- `ADD HL,HL` (R322). -/
  | addHlHl
  /-- `DEC HL` (R328). -/
  | decHl
  /-- `INC L` (R272). -/
  | incL
  /-- `DEC L` (R275). -/
  | decL
  /-- `CPL` (R301). -/
  | cpl
  /-- `INC SP` (R326). -/
  | incSp
  /-- `INC (HL)` (R273). -/
  | incMemHl
  /-- `DEC (HL)` (R276). -/
  | decMemHl
  /-- `SCF` (R304). -/
  | scf
  /-- `ADD HL,SP` (R322). -/
  | addHlSp
  /-- `DEC SP` (R328). -/
  | decSp
  /-- `INC A` (R272). -/
  | incA
  /-- `DEC A` (R275). -/
  | decA
  /-- `CCF` (R303). -/
  | ccf
  /-- `LD B,B` (R140). -/
  | ldBB
  /-- `LD B,C` (R140). -/
  | ldBC
  /-- `LD B,D` (R140). -/
  | ldBD
  /-- `LD B,E` (R140). -/
  | ldBE
  /-- `LD B,H` (R140). -/
  | ldBH
  /-- `LD B,L` (R140). -/
  | ldBL
  /-- `LD B,(HL)` (R142). -/
  | ldBMemHl
  /-- `LD B,A` (R140). -/
  | ldBA
  /-- `LD C,B` (R140). -/
  | ldCB
  /-- `LD C,C` (R140). -/
  | ldCC
  /-- `LD C,D` (R140). -/
  | ldCD
  /-- `LD C,E` (R140). -/
  | ldCE
  /-- `LD C,H` (R140). -/
  | ldCH
  /-- `LD C,L` (R140). -/
  | ldCL
  /-- `LD C,(HL)` (R142). -/
  | ldCMemHl
  /-- `LD C,A` (R140). -/
  | ldCA
  /-- `LD D,B` (R140). -/
  | ldDB
  /-- `LD D,C` (R140). -/
  | ldDC
  /-- `LD D,D` (R140). -/
  | ldDD
  /-- `LD D,E` (R140). -/
  | ldDE
  /-- `LD D,H` (R140). -/
  | ldDH
  /-- `LD D,L` (R140). -/
  | ldDL
  /-- `LD D,(HL)` (R142). -/
  | ldDMemHl
  /-- `LD D,A` (R140). -/
  | ldDA
  /-- `LD E,B` (R140). -/
  | ldEB
  /-- `LD E,C` (R140). -/
  | ldEC
  /-- `LD E,D` (R140). -/
  | ldED
  /-- `LD E,E` (R140). -/
  | ldEE
  /-- `LD E,H` (R140). -/
  | ldEH
  /-- `LD E,L` (R140). -/
  | ldEL
  /-- `LD E,(HL)` (R142). -/
  | ldEMemHl
  /-- `LD E,A` (R140). -/
  | ldEA
  /-- `LD H,B` (R140). -/
  | ldHB
  /-- `LD H,C` (R140). -/
  | ldHC
  /-- `LD H,D` (R140). -/
  | ldHD
  /-- `LD H,E` (R140). -/
  | ldHE
  /-- `LD H,H` (R140). -/
  | ldHH
  /-- `LD H,L` (R140). -/
  | ldHL
  /-- `LD H,(HL)` (R142). -/
  | ldHMemHl
  /-- `LD H,A` (R140). -/
  | ldHA
  /-- `LD L,B` (R140). -/
  | ldLB
  /-- `LD L,C` (R140). -/
  | ldLC
  /-- `LD L,D` (R140). -/
  | ldLD
  /-- `LD L,E` (R140). -/
  | ldLE
  /-- `LD L,H` (R140). -/
  | ldLH
  /-- `LD L,L` (R140). -/
  | ldLL
  /-- `LD L,(HL)` (R142). -/
  | ldLMemHl
  /-- `LD L,A` (R140). -/
  | ldLA
  /-- `LD (HL),B` (R144). -/
  | ldMemHlB
  /-- `LD (HL),C` (R144). -/
  | ldMemHlC
  /-- `LD (HL),D` (R144). -/
  | ldMemHlD
  /-- `LD (HL),E` (R144). -/
  | ldMemHlE
  /-- `LD (HL),H` (R144). -/
  | ldMemHlH
  /-- `LD (HL),L` (R144). -/
  | ldMemHlL
  /-- `HALT` (R306). -/
  | halt
  /-- `LD (HL),A` (R144). -/
  | ldMemHlA
  /-- `LD A,B` (R140). -/
  | ldAB
  /-- `LD A,C` (R140). -/
  | ldAC
  /-- `LD A,D` (R140). -/
  | ldAD
  /-- `LD A,E` (R140). -/
  | ldAE
  /-- `LD A,H` (R140). -/
  | ldAH
  /-- `LD A,L` (R140). -/
  | ldAL
  /-- `LD A,(HL)` (R142). -/
  | ldAMemHl
  /-- `LD A,A` (R140). -/
  | ldAA
  /-- `ADD A,B` (R240). -/
  | addAB
  /-- `ADD A,C` (R240). -/
  | addAC
  /-- `ADD A,D` (R240). -/
  | addAD
  /-- `ADD A,E` (R240). -/
  | addAE
  /-- `ADD A,H` (R240). -/
  | addAH
  /-- `ADD A,L` (R240). -/
  | addAL
  /-- `ADD A,(HL)` (R242). -/
  | addAMemHl
  /-- `ADD A,A` (R240). -/
  | addAA
  /-- `ADC A,B` (R244). -/
  | adcAB
  /-- `ADC A,C` (R244). -/
  | adcAC
  /-- `ADC A,D` (R244). -/
  | adcAD
  /-- `ADC A,E` (R244). -/
  | adcAE
  /-- `ADC A,H` (R244). -/
  | adcAH
  /-- `ADC A,L` (R244). -/
  | adcAL
  /-- `ADC A,(HL)` (R246). -/
  | adcAMemHl
  /-- `ADC A,A` (R244). -/
  | adcAA
  /-- `SUB B` (R248). -/
  | subB
  /-- `SUB C` (R248). -/
  | subC
  /-- `SUB D` (R248). -/
  | subD
  /-- `SUB E` (R248). -/
  | subE
  /-- `SUB H` (R248). -/
  | subH
  /-- `SUB L` (R248). -/
  | subL
  /-- `SUB (HL)` (R250). -/
  | subMemHl
  /-- `SUB A` (R248). -/
  | subA
  /-- `SBC A,B` (R252). -/
  | sbcAB
  /-- `SBC A,C` (R252). -/
  | sbcAC
  /-- `SBC A,D` (R252). -/
  | sbcAD
  /-- `SBC A,E` (R252). -/
  | sbcAE
  /-- `SBC A,H` (R252). -/
  | sbcAH
  /-- `SBC A,L` (R252). -/
  | sbcAL
  /-- `SBC A,(HL)` (R254). -/
  | sbcAMemHl
  /-- `SBC A,A` (R252). -/
  | sbcAA
  /-- `AND B` (R256). -/
  | andB
  /-- `AND C` (R256). -/
  | andC
  /-- `AND D` (R256). -/
  | andD
  /-- `AND E` (R256). -/
  | andE
  /-- `AND H` (R256). -/
  | andH
  /-- `AND L` (R256). -/
  | andL
  /-- `AND (HL)` (R258). -/
  | andMemHl
  /-- `AND A` (R256). -/
  | andA
  /-- `XOR B` (R260). -/
  | xorB
  /-- `XOR C` (R260). -/
  | xorC
  /-- `XOR D` (R260). -/
  | xorD
  /-- `XOR E` (R260). -/
  | xorE
  /-- `XOR H` (R260). -/
  | xorH
  /-- `XOR L` (R260). -/
  | xorL
  /-- `XOR (HL)` (R262). -/
  | xorMemHl
  /-- `XOR A` (R260). -/
  | xorA
  /-- `OR B` (R264). -/
  | orB
  /-- `OR C` (R264). -/
  | orC
  /-- `OR D` (R264). -/
  | orD
  /-- `OR E` (R264). -/
  | orE
  /-- `OR H` (R264). -/
  | orH
  /-- `OR L` (R264). -/
  | orL
  /-- `OR (HL)` (R266). -/
  | orMemHl
  /-- `OR A` (R264). -/
  | orA
  /-- `CP B` (R268). -/
  | cpB
  /-- `CP C` (R268). -/
  | cpC
  /-- `CP D` (R268). -/
  | cpD
  /-- `CP E` (R268). -/
  | cpE
  /-- `CP H` (R268). -/
  | cpH
  /-- `CP L` (R268). -/
  | cpL
  /-- `CP (HL)` (R270). -/
  | cpMemHl
  /-- `CP A` (R268). -/
  | cpA
  /-- `RET NZ` (R411). -/
  | retNz
  /-- `POP BC` (R182). -/
  | popBc
  /-- `PUSH BC` (R180). -/
  | pushBc
  /-- `RST 0x00` (R414). -/
  | rst00
  /-- `RET Z` (R411). -/
  | retZ
  /-- `RET` (R410). -/
  | ret
  /-- `RST 0x08` (R414). -/
  | rst08
  /-- `RET NC` (R411). -/
  | retNc
  /-- `POP DE` (R182). -/
  | popDe
  /-- `PUSH DE` (R180). -/
  | pushDe
  /-- `RST 0x10` (R414). -/
  | rst10
  /-- `RET C` (R411). -/
  | retC
  /-- `EXX` (R202). -/
  | exx
  /-- `RST 0x18` (R414). -/
  | rst18
  /-- `RET PO` (R411). -/
  | retPo
  /-- `POP HL` (R182). -/
  | popHl
  /-- `EX (SP),HL` (R203). -/
  | exMemSpHl
  /-- `PUSH HL` (R180). -/
  | pushHl
  /-- `RST 0x20` (R414). -/
  | rst20
  /-- `RET PE` (R411). -/
  | retPe
  /-- `JP (HL)` (R405). -/
  | jpHl
  /-- `EX DE,HL` (R200). -/
  | exDeHl
  /-- `RST 0x28` (R414). -/
  | rst28
  /-- `RET P` (R411). -/
  | retP
  /-- `POP AF` (R182). -/
  | popAf
  /-- `DI` (R307). -/
  | di
  /-- `PUSH AF` (R180). -/
  | pushAf
  /-- `RST 0x30` (R414). -/
  | rst30
  /-- `RET M` (R411). -/
  | retM
  /-- `LD SP,HL` (R178). -/
  | ldSpHl
  /-- `EI` (R308). -/
  | ei
  /-- `RST 0x38` (R414). -/
  | rst38
  -- The CB table (R115)
  /-- `RLC B` (R346). -/
  | rlcB
  /-- `RLC C` (R346). -/
  | rlcC
  /-- `RLC D` (R346). -/
  | rlcD
  /-- `RLC E` (R346). -/
  | rlcE
  /-- `RLC H` (R346). -/
  | rlcH
  /-- `RLC L` (R346). -/
  | rlcL
  /-- `RLC (HL)` (R347). -/
  | rlcMemHl
  /-- `RLC A` (R346). -/
  | rlcA
  /-- `RRC B` (R349). -/
  | rrcB
  /-- `RRC C` (R349). -/
  | rrcC
  /-- `RRC D` (R349). -/
  | rrcD
  /-- `RRC E` (R349). -/
  | rrcE
  /-- `RRC H` (R349). -/
  | rrcH
  /-- `RRC L` (R349). -/
  | rrcL
  /-- `RRC (HL)` (R350). -/
  | rrcMemHl
  /-- `RRC A` (R349). -/
  | rrcA
  /-- `RL B` (R352). -/
  | rlB
  /-- `RL C` (R352). -/
  | rlC
  /-- `RL D` (R352). -/
  | rlD
  /-- `RL E` (R352). -/
  | rlE
  /-- `RL H` (R352). -/
  | rlH
  /-- `RL L` (R352). -/
  | rlL
  /-- `RL (HL)` (R353). -/
  | rlMemHl
  /-- `RL A` (R352). -/
  | rlA
  /-- `RR B` (R355). -/
  | rrB
  /-- `RR C` (R355). -/
  | rrC
  /-- `RR D` (R355). -/
  | rrD
  /-- `RR E` (R355). -/
  | rrE
  /-- `RR H` (R355). -/
  | rrH
  /-- `RR L` (R355). -/
  | rrL
  /-- `RR (HL)` (R356). -/
  | rrMemHl
  /-- `RR A` (R355). -/
  | rrA
  /-- `SLA B` (R358). -/
  | slaB
  /-- `SLA C` (R358). -/
  | slaC
  /-- `SLA D` (R358). -/
  | slaD
  /-- `SLA E` (R358). -/
  | slaE
  /-- `SLA H` (R358). -/
  | slaH
  /-- `SLA L` (R358). -/
  | slaL
  /-- `SLA (HL)` (R359). -/
  | slaMemHl
  /-- `SLA A` (R358). -/
  | slaA
  /-- `SRA B` (R361). -/
  | sraB
  /-- `SRA C` (R361). -/
  | sraC
  /-- `SRA D` (R361). -/
  | sraD
  /-- `SRA E` (R361). -/
  | sraE
  /-- `SRA H` (R361). -/
  | sraH
  /-- `SRA L` (R361). -/
  | sraL
  /-- `SRA (HL)` (R362). -/
  | sraMemHl
  /-- `SRA A` (R361). -/
  | sraA
  /-- `SRL B` (R364). -/
  | srlB
  /-- `SRL C` (R364). -/
  | srlC
  /-- `SRL D` (R364). -/
  | srlD
  /-- `SRL E` (R364). -/
  | srlE
  /-- `SRL H` (R364). -/
  | srlH
  /-- `SRL L` (R364). -/
  | srlL
  /-- `SRL (HL)` (R365). -/
  | srlMemHl
  /-- `SRL A` (R364). -/
  | srlA
  /-- `BIT 0,B` (R380). -/
  | bit0B
  /-- `BIT 0,C` (R380). -/
  | bit0C
  /-- `BIT 0,D` (R380). -/
  | bit0D
  /-- `BIT 0,E` (R380). -/
  | bit0E
  /-- `BIT 0,H` (R380). -/
  | bit0H
  /-- `BIT 0,L` (R380). -/
  | bit0L
  /-- `BIT 0,(HL)` (R381). -/
  | bit0MemHl
  /-- `BIT 0,A` (R380). -/
  | bit0A
  /-- `BIT 1,B` (R380). -/
  | bit1B
  /-- `BIT 1,C` (R380). -/
  | bit1C
  /-- `BIT 1,D` (R380). -/
  | bit1D
  /-- `BIT 1,E` (R380). -/
  | bit1E
  /-- `BIT 1,H` (R380). -/
  | bit1H
  /-- `BIT 1,L` (R380). -/
  | bit1L
  /-- `BIT 1,(HL)` (R381). -/
  | bit1MemHl
  /-- `BIT 1,A` (R380). -/
  | bit1A
  /-- `BIT 2,B` (R380). -/
  | bit2B
  /-- `BIT 2,C` (R380). -/
  | bit2C
  /-- `BIT 2,D` (R380). -/
  | bit2D
  /-- `BIT 2,E` (R380). -/
  | bit2E
  /-- `BIT 2,H` (R380). -/
  | bit2H
  /-- `BIT 2,L` (R380). -/
  | bit2L
  /-- `BIT 2,(HL)` (R381). -/
  | bit2MemHl
  /-- `BIT 2,A` (R380). -/
  | bit2A
  /-- `BIT 3,B` (R380). -/
  | bit3B
  /-- `BIT 3,C` (R380). -/
  | bit3C
  /-- `BIT 3,D` (R380). -/
  | bit3D
  /-- `BIT 3,E` (R380). -/
  | bit3E
  /-- `BIT 3,H` (R380). -/
  | bit3H
  /-- `BIT 3,L` (R380). -/
  | bit3L
  /-- `BIT 3,(HL)` (R381). -/
  | bit3MemHl
  /-- `BIT 3,A` (R380). -/
  | bit3A
  /-- `BIT 4,B` (R380). -/
  | bit4B
  /-- `BIT 4,C` (R380). -/
  | bit4C
  /-- `BIT 4,D` (R380). -/
  | bit4D
  /-- `BIT 4,E` (R380). -/
  | bit4E
  /-- `BIT 4,H` (R380). -/
  | bit4H
  /-- `BIT 4,L` (R380). -/
  | bit4L
  /-- `BIT 4,(HL)` (R381). -/
  | bit4MemHl
  /-- `BIT 4,A` (R380). -/
  | bit4A
  /-- `BIT 5,B` (R380). -/
  | bit5B
  /-- `BIT 5,C` (R380). -/
  | bit5C
  /-- `BIT 5,D` (R380). -/
  | bit5D
  /-- `BIT 5,E` (R380). -/
  | bit5E
  /-- `BIT 5,H` (R380). -/
  | bit5H
  /-- `BIT 5,L` (R380). -/
  | bit5L
  /-- `BIT 5,(HL)` (R381). -/
  | bit5MemHl
  /-- `BIT 5,A` (R380). -/
  | bit5A
  /-- `BIT 6,B` (R380). -/
  | bit6B
  /-- `BIT 6,C` (R380). -/
  | bit6C
  /-- `BIT 6,D` (R380). -/
  | bit6D
  /-- `BIT 6,E` (R380). -/
  | bit6E
  /-- `BIT 6,H` (R380). -/
  | bit6H
  /-- `BIT 6,L` (R380). -/
  | bit6L
  /-- `BIT 6,(HL)` (R381). -/
  | bit6MemHl
  /-- `BIT 6,A` (R380). -/
  | bit6A
  /-- `BIT 7,B` (R380). -/
  | bit7B
  /-- `BIT 7,C` (R380). -/
  | bit7C
  /-- `BIT 7,D` (R380). -/
  | bit7D
  /-- `BIT 7,E` (R380). -/
  | bit7E
  /-- `BIT 7,H` (R380). -/
  | bit7H
  /-- `BIT 7,L` (R380). -/
  | bit7L
  /-- `BIT 7,(HL)` (R381). -/
  | bit7MemHl
  /-- `BIT 7,A` (R380). -/
  | bit7A
  /-- `RES 0,B` (R386). -/
  | res0B
  /-- `RES 0,C` (R386). -/
  | res0C
  /-- `RES 0,D` (R386). -/
  | res0D
  /-- `RES 0,E` (R386). -/
  | res0E
  /-- `RES 0,H` (R386). -/
  | res0H
  /-- `RES 0,L` (R386). -/
  | res0L
  /-- `RES 0,(HL)` (R387). -/
  | res0MemHl
  /-- `RES 0,A` (R386). -/
  | res0A
  /-- `RES 1,B` (R386). -/
  | res1B
  /-- `RES 1,C` (R386). -/
  | res1C
  /-- `RES 1,D` (R386). -/
  | res1D
  /-- `RES 1,E` (R386). -/
  | res1E
  /-- `RES 1,H` (R386). -/
  | res1H
  /-- `RES 1,L` (R386). -/
  | res1L
  /-- `RES 1,(HL)` (R387). -/
  | res1MemHl
  /-- `RES 1,A` (R386). -/
  | res1A
  /-- `RES 2,B` (R386). -/
  | res2B
  /-- `RES 2,C` (R386). -/
  | res2C
  /-- `RES 2,D` (R386). -/
  | res2D
  /-- `RES 2,E` (R386). -/
  | res2E
  /-- `RES 2,H` (R386). -/
  | res2H
  /-- `RES 2,L` (R386). -/
  | res2L
  /-- `RES 2,(HL)` (R387). -/
  | res2MemHl
  /-- `RES 2,A` (R386). -/
  | res2A
  /-- `RES 3,B` (R386). -/
  | res3B
  /-- `RES 3,C` (R386). -/
  | res3C
  /-- `RES 3,D` (R386). -/
  | res3D
  /-- `RES 3,E` (R386). -/
  | res3E
  /-- `RES 3,H` (R386). -/
  | res3H
  /-- `RES 3,L` (R386). -/
  | res3L
  /-- `RES 3,(HL)` (R387). -/
  | res3MemHl
  /-- `RES 3,A` (R386). -/
  | res3A
  /-- `RES 4,B` (R386). -/
  | res4B
  /-- `RES 4,C` (R386). -/
  | res4C
  /-- `RES 4,D` (R386). -/
  | res4D
  /-- `RES 4,E` (R386). -/
  | res4E
  /-- `RES 4,H` (R386). -/
  | res4H
  /-- `RES 4,L` (R386). -/
  | res4L
  /-- `RES 4,(HL)` (R387). -/
  | res4MemHl
  /-- `RES 4,A` (R386). -/
  | res4A
  /-- `RES 5,B` (R386). -/
  | res5B
  /-- `RES 5,C` (R386). -/
  | res5C
  /-- `RES 5,D` (R386). -/
  | res5D
  /-- `RES 5,E` (R386). -/
  | res5E
  /-- `RES 5,H` (R386). -/
  | res5H
  /-- `RES 5,L` (R386). -/
  | res5L
  /-- `RES 5,(HL)` (R387). -/
  | res5MemHl
  /-- `RES 5,A` (R386). -/
  | res5A
  /-- `RES 6,B` (R386). -/
  | res6B
  /-- `RES 6,C` (R386). -/
  | res6C
  /-- `RES 6,D` (R386). -/
  | res6D
  /-- `RES 6,E` (R386). -/
  | res6E
  /-- `RES 6,H` (R386). -/
  | res6H
  /-- `RES 6,L` (R386). -/
  | res6L
  /-- `RES 6,(HL)` (R387). -/
  | res6MemHl
  /-- `RES 6,A` (R386). -/
  | res6A
  /-- `RES 7,B` (R386). -/
  | res7B
  /-- `RES 7,C` (R386). -/
  | res7C
  /-- `RES 7,D` (R386). -/
  | res7D
  /-- `RES 7,E` (R386). -/
  | res7E
  /-- `RES 7,H` (R386). -/
  | res7H
  /-- `RES 7,L` (R386). -/
  | res7L
  /-- `RES 7,(HL)` (R387). -/
  | res7MemHl
  /-- `RES 7,A` (R386). -/
  | res7A
  /-- `SET 0,B` (R383). -/
  | set0B
  /-- `SET 0,C` (R383). -/
  | set0C
  /-- `SET 0,D` (R383). -/
  | set0D
  /-- `SET 0,E` (R383). -/
  | set0E
  /-- `SET 0,H` (R383). -/
  | set0H
  /-- `SET 0,L` (R383). -/
  | set0L
  /-- `SET 0,(HL)` (R384). -/
  | set0MemHl
  /-- `SET 0,A` (R383). -/
  | set0A
  /-- `SET 1,B` (R383). -/
  | set1B
  /-- `SET 1,C` (R383). -/
  | set1C
  /-- `SET 1,D` (R383). -/
  | set1D
  /-- `SET 1,E` (R383). -/
  | set1E
  /-- `SET 1,H` (R383). -/
  | set1H
  /-- `SET 1,L` (R383). -/
  | set1L
  /-- `SET 1,(HL)` (R384). -/
  | set1MemHl
  /-- `SET 1,A` (R383). -/
  | set1A
  /-- `SET 2,B` (R383). -/
  | set2B
  /-- `SET 2,C` (R383). -/
  | set2C
  /-- `SET 2,D` (R383). -/
  | set2D
  /-- `SET 2,E` (R383). -/
  | set2E
  /-- `SET 2,H` (R383). -/
  | set2H
  /-- `SET 2,L` (R383). -/
  | set2L
  /-- `SET 2,(HL)` (R384). -/
  | set2MemHl
  /-- `SET 2,A` (R383). -/
  | set2A
  /-- `SET 3,B` (R383). -/
  | set3B
  /-- `SET 3,C` (R383). -/
  | set3C
  /-- `SET 3,D` (R383). -/
  | set3D
  /-- `SET 3,E` (R383). -/
  | set3E
  /-- `SET 3,H` (R383). -/
  | set3H
  /-- `SET 3,L` (R383). -/
  | set3L
  /-- `SET 3,(HL)` (R384). -/
  | set3MemHl
  /-- `SET 3,A` (R383). -/
  | set3A
  /-- `SET 4,B` (R383). -/
  | set4B
  /-- `SET 4,C` (R383). -/
  | set4C
  /-- `SET 4,D` (R383). -/
  | set4D
  /-- `SET 4,E` (R383). -/
  | set4E
  /-- `SET 4,H` (R383). -/
  | set4H
  /-- `SET 4,L` (R383). -/
  | set4L
  /-- `SET 4,(HL)` (R384). -/
  | set4MemHl
  /-- `SET 4,A` (R383). -/
  | set4A
  /-- `SET 5,B` (R383). -/
  | set5B
  /-- `SET 5,C` (R383). -/
  | set5C
  /-- `SET 5,D` (R383). -/
  | set5D
  /-- `SET 5,E` (R383). -/
  | set5E
  /-- `SET 5,H` (R383). -/
  | set5H
  /-- `SET 5,L` (R383). -/
  | set5L
  /-- `SET 5,(HL)` (R384). -/
  | set5MemHl
  /-- `SET 5,A` (R383). -/
  | set5A
  /-- `SET 6,B` (R383). -/
  | set6B
  /-- `SET 6,C` (R383). -/
  | set6C
  /-- `SET 6,D` (R383). -/
  | set6D
  /-- `SET 6,E` (R383). -/
  | set6E
  /-- `SET 6,H` (R383). -/
  | set6H
  /-- `SET 6,L` (R383). -/
  | set6L
  /-- `SET 6,(HL)` (R384). -/
  | set6MemHl
  /-- `SET 6,A` (R383). -/
  | set6A
  /-- `SET 7,B` (R383). -/
  | set7B
  /-- `SET 7,C` (R383). -/
  | set7C
  /-- `SET 7,D` (R383). -/
  | set7D
  /-- `SET 7,E` (R383). -/
  | set7E
  /-- `SET 7,H` (R383). -/
  | set7H
  /-- `SET 7,L` (R383). -/
  | set7L
  /-- `SET 7,(HL)` (R384). -/
  | set7MemHl
  /-- `SET 7,A` (R383). -/
  | set7A
  -- The index table, IX (R116)
  /-- `ADD IX,BC` (R325). -/
  | addIxBc
  /-- `ADD IX,DE` (R325). -/
  | addIxDe
  /-- `ADD IX,IX` (R325). -/
  | addIxIx
  /-- `ADD IX,SP` (R325). -/
  | addIxSp
  /-- `INC IX` (R327). -/
  | incIx
  /-- `DEC IX` (R329). -/
  | decIx
  /-- `POP IX` (R183). -/
  | popIx
  /-- `EX (SP),IX` (R204). -/
  | exMemSpIx
  /-- `PUSH IX` (R181). -/
  | pushIx
  /-- `JP (IX)` (R406). -/
  | jpIx
  /-- `LD SP,IX` (R179). -/
  | ldSpIx
  -- The index table, IY (R116)
  /-- `ADD IY,BC` (R325). -/
  | addIyBc
  /-- `ADD IY,DE` (R325). -/
  | addIyDe
  /-- `ADD IY,IY` (R325). -/
  | addIyIy
  /-- `ADD IY,SP` (R325). -/
  | addIySp
  /-- `INC IY` (R327). -/
  | incIy
  /-- `DEC IY` (R329). -/
  | decIy
  /-- `POP IY` (R183). -/
  | popIy
  /-- `EX (SP),IY` (R204). -/
  | exMemSpIy
  /-- `PUSH IY` (R181). -/
  | pushIy
  /-- `JP (IY)` (R406). -/
  | jpIy
  /-- `LD SP,IY` (R179). -/
  | ldSpIy
  -- The ED table (R118)
  /-- `IN B,(C)` (R432). -/
  | inBPortC
  /-- `OUT (C),B` (R438). -/
  | outPortCB
  /-- `IN C,(C)` (R432). -/
  | inCPortC
  /-- `OUT (C),C` (R438). -/
  | outPortCC
  /-- `IN D,(C)` (R432). -/
  | inDPortC
  /-- `OUT (C),D` (R438). -/
  | outPortCD
  /-- `IN E,(C)` (R432). -/
  | inEPortC
  /-- `OUT (C),E` (R438). -/
  | outPortCE
  /-- `IN H,(C)` (R432). -/
  | inHPortC
  /-- `OUT (C),H` (R438). -/
  | outPortCH
  /-- `IN L,(C)` (R432). -/
  | inLPortC
  /-- `OUT (C),L` (R438). -/
  | outPortCL
  /-- `IN A,(C)` (R432). -/
  | inAPortC
  /-- `OUT (C),A` (R438). -/
  | outPortCA
  /-- `SBC HL,BC` (R324). -/
  | sbcHlBc
  /-- `ADC HL,BC` (R323). -/
  | adcHlBc
  /-- `SBC HL,DE` (R324). -/
  | sbcHlDe
  /-- `ADC HL,DE` (R323). -/
  | adcHlDe
  /-- `SBC HL,HL` (R324). -/
  | sbcHlHl
  /-- `ADC HL,HL` (R323). -/
  | adcHlHl
  /-- `SBC HL,SP` (R324). -/
  | sbcHlSp
  /-- `ADC HL,SP` (R323). -/
  | adcHlSp
  /-- `NEG` (R302). -/
  | neg
  /-- `RETN` (R413). -/
  | retn
  /-- `IM 0` (R309). -/
  | im0
  /-- `LD I,A` (R156). -/
  | ldIA
  /-- `RETI` (R412). -/
  | reti
  /-- `LD R,A` (R157). -/
  | ldRA
  /-- `IM 1` (R310). -/
  | im1
  /-- `LD A,I` (R154). -/
  | ldAI
  /-- `IM 2` (R311). -/
  | im2
  /-- `LD A,R` (R155). -/
  | ldAR
  /-- `RRD` (R368). -/
  | rrd
  /-- `RLD` (R367). -/
  | rld
  /-- `LDI` (R206). -/
  | ldi
  /-- `CPI` (R210). -/
  | cpi
  /-- `INI` (R433). -/
  | ini
  /-- `OUTI` (R439). -/
  | outi
  /-- `LDD` (R208). -/
  | ldd
  /-- `CPD` (R212). -/
  | cpd
  /-- `IND` (R435). -/
  | ind
  /-- `OUTD` (R441). -/
  | outd
  /-- `LDIR` (R207). -/
  | ldir
  /-- `CPIR` (R211). -/
  | cpir
  /-- `INIR` (R434). -/
  | inir
  /-- `OTIR` (R440). -/
  | otir
  /-- `LDDR` (R209). -/
  | lddr
  /-- `CPDR` (R213). -/
  | cpdr
  /-- `INDR` (R436). -/
  | indr
  /-- `OTDR` (R442). -/
  | otdr
  deriving DecidableEq, Repr

end Sys2Proof
end

