-- ==== Sys2Proof/WellFormed.lean ====
section
/-! DEFINITION. When an instruction is well formed: its signed operands lie in the range a byte can hold. Every other operand's type
has exactly the range the encoding admits (`n` 0 to 255, `nn` 0 to 65535, R125). -/

namespace Sys2Proof

/-- The range of the signed operands d and e (R112, R113, R125). -/
def signedByte (v : Int) : Bool := decide (-128 ≤ v) && decide (v ≤ 127)

/-- The displacement d of an indexed operand (R112), where the instruction has one. -/
def Instr.displacement : Instr → Option Int
  | .incMemIx d | .decMemIx d | .ldMemIxN d _ | .ldBMemIx d | .ldCMemIx d | .ldDMemIx d
  | .ldEMemIx d | .ldHMemIx d | .ldLMemIx d | .ldAMemIx d | .ldMemIxB d | .ldMemIxC d
  | .ldMemIxD d | .ldMemIxE d | .ldMemIxH d | .ldMemIxL d | .ldMemIxA d | .addAMemIx d
  | .adcAMemIx d | .subMemIx d | .sbcAMemIx d | .andMemIx d | .xorMemIx d | .orMemIx d
  | .cpMemIx d | .rlcMemIx d | .rrcMemIx d | .rlMemIx d | .rrMemIx d | .slaMemIx d
  | .sraMemIx d | .srlMemIx d | .bit0MemIx d | .bit1MemIx d | .bit2MemIx d | .bit3MemIx d
  | .bit4MemIx d | .bit5MemIx d | .bit6MemIx d | .bit7MemIx d | .res0MemIx d | .res1MemIx d
  | .res2MemIx d | .res3MemIx d | .res4MemIx d | .res5MemIx d | .res6MemIx d | .res7MemIx d
  | .set0MemIx d | .set1MemIx d | .set2MemIx d | .set3MemIx d | .set4MemIx d | .set5MemIx d
  | .set6MemIx d | .set7MemIx d | .incMemIy d | .decMemIy d | .ldMemIyN d _ | .ldBMemIy d
  | .ldCMemIy d | .ldDMemIy d | .ldEMemIy d | .ldHMemIy d | .ldLMemIy d | .ldAMemIy d
  | .ldMemIyB d | .ldMemIyC d | .ldMemIyD d | .ldMemIyE d | .ldMemIyH d | .ldMemIyL d
  | .ldMemIyA d | .addAMemIy d | .adcAMemIy d | .subMemIy d | .sbcAMemIy d | .andMemIy d
  | .xorMemIy d | .orMemIy d | .cpMemIy d | .rlcMemIy d | .rrcMemIy d | .rlMemIy d
  | .rrMemIy d | .slaMemIy d | .sraMemIy d | .srlMemIy d | .bit0MemIy d | .bit1MemIy d
  | .bit2MemIy d | .bit3MemIy d | .bit4MemIy d | .bit5MemIy d | .bit6MemIy d | .bit7MemIy d
  | .res0MemIy d | .res1MemIy d | .res2MemIy d | .res3MemIy d | .res4MemIy d | .res5MemIy d
  | .res6MemIy d | .res7MemIy d | .set0MemIy d | .set1MemIy d | .set2MemIy d | .set3MemIy d
  | .set4MemIy d | .set5MemIy d | .set6MemIy d | .set7MemIy d => some d
  | .nop | .ldBcNn _ | .ldMemBcA | .incBc | .incB | .decB | .ldBN _ | .rlca
  | .exAfAf | .addHlBc | .ldAMemBc | .decBc | .incC | .decC | .ldCN _ | .rrca
  | .djnzE _ | .ldDeNn _ | .ldMemDeA | .incDe | .incD | .decD | .ldDN _ | .rla
  | .jrE _ | .addHlDe | .ldAMemDe | .decDe | .incE | .decE | .ldEN _ | .rra
  | .jrNzE _ | .ldHlNn _ | .ldMemNnHl _ | .incHl | .incH | .decH | .ldHN _ | .daa
  | .jrZE _ | .addHlHl | .ldHlMemNn _ | .decHl | .incL | .decL | .ldLN _ | .cpl
  | .jrNcE _ | .ldSpNn _ | .ldMemNnA _ | .incSp | .incMemHl | .decMemHl | .ldMemHlN _ | .scf
  | .jrCE _ | .addHlSp | .ldAMemNn _ | .decSp | .incA | .decA | .ldAN _ | .ccf
  | .ldBB | .ldBC | .ldBD | .ldBE | .ldBH | .ldBL | .ldBMemHl | .ldBA
  | .ldCB | .ldCC | .ldCD | .ldCE | .ldCH | .ldCL | .ldCMemHl | .ldCA
  | .ldDB | .ldDC | .ldDD | .ldDE | .ldDH | .ldDL | .ldDMemHl | .ldDA
  | .ldEB | .ldEC | .ldED | .ldEE | .ldEH | .ldEL | .ldEMemHl | .ldEA
  | .ldHB | .ldHC | .ldHD | .ldHE | .ldHH | .ldHL | .ldHMemHl | .ldHA
  | .ldLB | .ldLC | .ldLD | .ldLE | .ldLH | .ldLL | .ldLMemHl | .ldLA
  | .ldMemHlB | .ldMemHlC | .ldMemHlD | .ldMemHlE | .ldMemHlH | .ldMemHlL | .halt | .ldMemHlA
  | .ldAB | .ldAC | .ldAD | .ldAE | .ldAH | .ldAL | .ldAMemHl | .ldAA
  | .addAB | .addAC | .addAD | .addAE | .addAH | .addAL | .addAMemHl | .addAA
  | .adcAB | .adcAC | .adcAD | .adcAE | .adcAH | .adcAL | .adcAMemHl | .adcAA
  | .subB | .subC | .subD | .subE | .subH | .subL | .subMemHl | .subA
  | .sbcAB | .sbcAC | .sbcAD | .sbcAE | .sbcAH | .sbcAL | .sbcAMemHl | .sbcAA
  | .andB | .andC | .andD | .andE | .andH | .andL | .andMemHl | .andA
  | .xorB | .xorC | .xorD | .xorE | .xorH | .xorL | .xorMemHl | .xorA
  | .orB | .orC | .orD | .orE | .orH | .orL | .orMemHl | .orA
  | .cpB | .cpC | .cpD | .cpE | .cpH | .cpL | .cpMemHl | .cpA
  | .retNz | .popBc | .jpNzNn _ | .jpNn _ | .callNzNn _ | .pushBc | .addAN _ | .rst00
  | .retZ | .ret | .jpZNn _ | .callZNn _ | .callNn _ | .adcAN _ | .rst08 | .retNc
  | .popDe | .jpNcNn _ | .outPortNA _ | .callNcNn _ | .pushDe | .subN _ | .rst10 | .retC
  | .exx | .jpCNn _ | .inAPortN _ | .callCNn _ | .sbcAN _ | .rst18 | .retPo | .popHl
  | .jpPoNn _ | .exMemSpHl | .callPoNn _ | .pushHl | .andN _ | .rst20 | .retPe | .jpHl
  | .jpPeNn _ | .exDeHl | .callPeNn _ | .xorN _ | .rst28 | .retP | .popAf | .jpPNn _
  | .di | .callPNn _ | .pushAf | .orN _ | .rst30 | .retM | .ldSpHl | .jpMNn _
  | .ei | .callMNn _ | .cpN _ | .rst38 | .rlcB | .rlcC | .rlcD | .rlcE
  | .rlcH | .rlcL | .rlcMemHl | .rlcA | .rrcB | .rrcC | .rrcD | .rrcE
  | .rrcH | .rrcL | .rrcMemHl | .rrcA | .rlB | .rlC | .rlD | .rlE
  | .rlH | .rlL | .rlMemHl | .rlA | .rrB | .rrC | .rrD | .rrE
  | .rrH | .rrL | .rrMemHl | .rrA | .slaB | .slaC | .slaD | .slaE
  | .slaH | .slaL | .slaMemHl | .slaA | .sraB | .sraC | .sraD | .sraE
  | .sraH | .sraL | .sraMemHl | .sraA | .srlB | .srlC | .srlD | .srlE
  | .srlH | .srlL | .srlMemHl | .srlA | .bit0B | .bit0C | .bit0D | .bit0E
  | .bit0H | .bit0L | .bit0MemHl | .bit0A | .bit1B | .bit1C | .bit1D | .bit1E
  | .bit1H | .bit1L | .bit1MemHl | .bit1A | .bit2B | .bit2C | .bit2D | .bit2E
  | .bit2H | .bit2L | .bit2MemHl | .bit2A | .bit3B | .bit3C | .bit3D | .bit3E
  | .bit3H | .bit3L | .bit3MemHl | .bit3A | .bit4B | .bit4C | .bit4D | .bit4E
  | .bit4H | .bit4L | .bit4MemHl | .bit4A | .bit5B | .bit5C | .bit5D | .bit5E
  | .bit5H | .bit5L | .bit5MemHl | .bit5A | .bit6B | .bit6C | .bit6D | .bit6E
  | .bit6H | .bit6L | .bit6MemHl | .bit6A | .bit7B | .bit7C | .bit7D | .bit7E
  | .bit7H | .bit7L | .bit7MemHl | .bit7A | .res0B | .res0C | .res0D | .res0E
  | .res0H | .res0L | .res0MemHl | .res0A | .res1B | .res1C | .res1D | .res1E
  | .res1H | .res1L | .res1MemHl | .res1A | .res2B | .res2C | .res2D | .res2E
  | .res2H | .res2L | .res2MemHl | .res2A | .res3B | .res3C | .res3D | .res3E
  | .res3H | .res3L | .res3MemHl | .res3A | .res4B | .res4C | .res4D | .res4E
  | .res4H | .res4L | .res4MemHl | .res4A | .res5B | .res5C | .res5D | .res5E
  | .res5H | .res5L | .res5MemHl | .res5A | .res6B | .res6C | .res6D | .res6E
  | .res6H | .res6L | .res6MemHl | .res6A | .res7B | .res7C | .res7D | .res7E
  | .res7H | .res7L | .res7MemHl | .res7A | .set0B | .set0C | .set0D | .set0E
  | .set0H | .set0L | .set0MemHl | .set0A | .set1B | .set1C | .set1D | .set1E
  | .set1H | .set1L | .set1MemHl | .set1A | .set2B | .set2C | .set2D | .set2E
  | .set2H | .set2L | .set2MemHl | .set2A | .set3B | .set3C | .set3D | .set3E
  | .set3H | .set3L | .set3MemHl | .set3A | .set4B | .set4C | .set4D | .set4E
  | .set4H | .set4L | .set4MemHl | .set4A | .set5B | .set5C | .set5D | .set5E
  | .set5H | .set5L | .set5MemHl | .set5A | .set6B | .set6C | .set6D | .set6E
  | .set6H | .set6L | .set6MemHl | .set6A | .set7B | .set7C | .set7D | .set7E
  | .set7H | .set7L | .set7MemHl | .set7A | .addIxBc | .addIxDe | .addIxIx | .addIxSp
  | .ldIxNn _ | .ldMemNnIx _ | .incIx | .ldIxMemNn _ | .decIx | .popIx | .exMemSpIx | .pushIx
  | .jpIx | .ldSpIx | .addIyBc | .addIyDe | .addIyIy | .addIySp | .ldIyNn _ | .ldMemNnIy _
  | .incIy | .ldIyMemNn _ | .decIy | .popIy | .exMemSpIy | .pushIy | .jpIy | .ldSpIy
  | .inBPortC | .outPortCB | .inCPortC | .outPortCC | .inDPortC | .outPortCD | .inEPortC | .outPortCE
  | .inHPortC | .outPortCH | .inLPortC | .outPortCL | .inAPortC | .outPortCA | .sbcHlBc | .adcHlBc
  | .ldMemNnBc _ | .ldBcMemNn _ | .sbcHlDe | .adcHlDe | .ldMemNnDe _ | .ldDeMemNn _ | .sbcHlHl | .adcHlHl
  | .ldMemNnHlEd _ | .ldHlMemNnEd _ | .sbcHlSp | .adcHlSp | .ldMemNnSp _ | .ldSpMemNn _ | .neg | .retn
  | .im0 | .ldIA | .reti | .ldRA | .im1 | .ldAI | .im2 | .ldAR
  | .rrd | .rld | .ldi | .cpi | .ini | .outi | .ldd | .cpd
  | .ind | .outd | .ldir | .cpir | .inir | .otir | .lddr | .cpdr
  | .indr | .otdr => none

/-- The offset e of a relative jump (R113), where the instruction has one. -/
def Instr.offset : Instr → Option Int
  | .djnzE e | .jrE e | .jrNzE e | .jrZE e | .jrNcE e | .jrCE e => some e
  | .nop | .ldBcNn _ | .ldMemBcA | .incBc | .incB | .decB | .ldBN _ | .rlca
  | .exAfAf | .addHlBc | .ldAMemBc | .decBc | .incC | .decC | .ldCN _ | .rrca
  | .ldDeNn _ | .ldMemDeA | .incDe | .incD | .decD | .ldDN _ | .rla | .addHlDe
  | .ldAMemDe | .decDe | .incE | .decE | .ldEN _ | .rra | .ldHlNn _ | .ldMemNnHl _
  | .incHl | .incH | .decH | .ldHN _ | .daa | .addHlHl | .ldHlMemNn _ | .decHl
  | .incL | .decL | .ldLN _ | .cpl | .ldSpNn _ | .ldMemNnA _ | .incSp | .incMemHl
  | .decMemHl | .ldMemHlN _ | .scf | .addHlSp | .ldAMemNn _ | .decSp | .incA | .decA
  | .ldAN _ | .ccf | .ldBB | .ldBC | .ldBD | .ldBE | .ldBH | .ldBL
  | .ldBMemHl | .ldBA | .ldCB | .ldCC | .ldCD | .ldCE | .ldCH | .ldCL
  | .ldCMemHl | .ldCA | .ldDB | .ldDC | .ldDD | .ldDE | .ldDH | .ldDL
  | .ldDMemHl | .ldDA | .ldEB | .ldEC | .ldED | .ldEE | .ldEH | .ldEL
  | .ldEMemHl | .ldEA | .ldHB | .ldHC | .ldHD | .ldHE | .ldHH | .ldHL
  | .ldHMemHl | .ldHA | .ldLB | .ldLC | .ldLD | .ldLE | .ldLH | .ldLL
  | .ldLMemHl | .ldLA | .ldMemHlB | .ldMemHlC | .ldMemHlD | .ldMemHlE | .ldMemHlH | .ldMemHlL
  | .halt | .ldMemHlA | .ldAB | .ldAC | .ldAD | .ldAE | .ldAH | .ldAL
  | .ldAMemHl | .ldAA | .addAB | .addAC | .addAD | .addAE | .addAH | .addAL
  | .addAMemHl | .addAA | .adcAB | .adcAC | .adcAD | .adcAE | .adcAH | .adcAL
  | .adcAMemHl | .adcAA | .subB | .subC | .subD | .subE | .subH | .subL
  | .subMemHl | .subA | .sbcAB | .sbcAC | .sbcAD | .sbcAE | .sbcAH | .sbcAL
  | .sbcAMemHl | .sbcAA | .andB | .andC | .andD | .andE | .andH | .andL
  | .andMemHl | .andA | .xorB | .xorC | .xorD | .xorE | .xorH | .xorL
  | .xorMemHl | .xorA | .orB | .orC | .orD | .orE | .orH | .orL
  | .orMemHl | .orA | .cpB | .cpC | .cpD | .cpE | .cpH | .cpL
  | .cpMemHl | .cpA | .retNz | .popBc | .jpNzNn _ | .jpNn _ | .callNzNn _ | .pushBc
  | .addAN _ | .rst00 | .retZ | .ret | .jpZNn _ | .callZNn _ | .callNn _ | .adcAN _
  | .rst08 | .retNc | .popDe | .jpNcNn _ | .outPortNA _ | .callNcNn _ | .pushDe | .subN _
  | .rst10 | .retC | .exx | .jpCNn _ | .inAPortN _ | .callCNn _ | .sbcAN _ | .rst18
  | .retPo | .popHl | .jpPoNn _ | .exMemSpHl | .callPoNn _ | .pushHl | .andN _ | .rst20
  | .retPe | .jpHl | .jpPeNn _ | .exDeHl | .callPeNn _ | .xorN _ | .rst28 | .retP
  | .popAf | .jpPNn _ | .di | .callPNn _ | .pushAf | .orN _ | .rst30 | .retM
  | .ldSpHl | .jpMNn _ | .ei | .callMNn _ | .cpN _ | .rst38 | .rlcB | .rlcC
  | .rlcD | .rlcE | .rlcH | .rlcL | .rlcMemHl | .rlcA | .rrcB | .rrcC
  | .rrcD | .rrcE | .rrcH | .rrcL | .rrcMemHl | .rrcA | .rlB | .rlC
  | .rlD | .rlE | .rlH | .rlL | .rlMemHl | .rlA | .rrB | .rrC
  | .rrD | .rrE | .rrH | .rrL | .rrMemHl | .rrA | .slaB | .slaC
  | .slaD | .slaE | .slaH | .slaL | .slaMemHl | .slaA | .sraB | .sraC
  | .sraD | .sraE | .sraH | .sraL | .sraMemHl | .sraA | .srlB | .srlC
  | .srlD | .srlE | .srlH | .srlL | .srlMemHl | .srlA | .bit0B | .bit0C
  | .bit0D | .bit0E | .bit0H | .bit0L | .bit0MemHl | .bit0A | .bit1B | .bit1C
  | .bit1D | .bit1E | .bit1H | .bit1L | .bit1MemHl | .bit1A | .bit2B | .bit2C
  | .bit2D | .bit2E | .bit2H | .bit2L | .bit2MemHl | .bit2A | .bit3B | .bit3C
  | .bit3D | .bit3E | .bit3H | .bit3L | .bit3MemHl | .bit3A | .bit4B | .bit4C
  | .bit4D | .bit4E | .bit4H | .bit4L | .bit4MemHl | .bit4A | .bit5B | .bit5C
  | .bit5D | .bit5E | .bit5H | .bit5L | .bit5MemHl | .bit5A | .bit6B | .bit6C
  | .bit6D | .bit6E | .bit6H | .bit6L | .bit6MemHl | .bit6A | .bit7B | .bit7C
  | .bit7D | .bit7E | .bit7H | .bit7L | .bit7MemHl | .bit7A | .res0B | .res0C
  | .res0D | .res0E | .res0H | .res0L | .res0MemHl | .res0A | .res1B | .res1C
  | .res1D | .res1E | .res1H | .res1L | .res1MemHl | .res1A | .res2B | .res2C
  | .res2D | .res2E | .res2H | .res2L | .res2MemHl | .res2A | .res3B | .res3C
  | .res3D | .res3E | .res3H | .res3L | .res3MemHl | .res3A | .res4B | .res4C
  | .res4D | .res4E | .res4H | .res4L | .res4MemHl | .res4A | .res5B | .res5C
  | .res5D | .res5E | .res5H | .res5L | .res5MemHl | .res5A | .res6B | .res6C
  | .res6D | .res6E | .res6H | .res6L | .res6MemHl | .res6A | .res7B | .res7C
  | .res7D | .res7E | .res7H | .res7L | .res7MemHl | .res7A | .set0B | .set0C
  | .set0D | .set0E | .set0H | .set0L | .set0MemHl | .set0A | .set1B | .set1C
  | .set1D | .set1E | .set1H | .set1L | .set1MemHl | .set1A | .set2B | .set2C
  | .set2D | .set2E | .set2H | .set2L | .set2MemHl | .set2A | .set3B | .set3C
  | .set3D | .set3E | .set3H | .set3L | .set3MemHl | .set3A | .set4B | .set4C
  | .set4D | .set4E | .set4H | .set4L | .set4MemHl | .set4A | .set5B | .set5C
  | .set5D | .set5E | .set5H | .set5L | .set5MemHl | .set5A | .set6B | .set6C
  | .set6D | .set6E | .set6H | .set6L | .set6MemHl | .set6A | .set7B | .set7C
  | .set7D | .set7E | .set7H | .set7L | .set7MemHl | .set7A | .addIxBc | .addIxDe
  | .addIxIx | .addIxSp | .ldIxNn _ | .ldMemNnIx _ | .incIx | .ldIxMemNn _ | .decIx | .incMemIx _
  | .decMemIx _ | .ldMemIxN _ _ | .ldBMemIx _ | .ldCMemIx _ | .ldDMemIx _ | .ldEMemIx _ | .ldHMemIx _ | .ldLMemIx _
  | .ldAMemIx _ | .ldMemIxB _ | .ldMemIxC _ | .ldMemIxD _ | .ldMemIxE _ | .ldMemIxH _ | .ldMemIxL _ | .ldMemIxA _
  | .addAMemIx _ | .adcAMemIx _ | .subMemIx _ | .sbcAMemIx _ | .andMemIx _ | .xorMemIx _ | .orMemIx _ | .cpMemIx _
  | .popIx | .exMemSpIx | .pushIx | .jpIx | .ldSpIx | .rlcMemIx _ | .rrcMemIx _ | .rlMemIx _
  | .rrMemIx _ | .slaMemIx _ | .sraMemIx _ | .srlMemIx _ | .bit0MemIx _ | .bit1MemIx _ | .bit2MemIx _ | .bit3MemIx _
  | .bit4MemIx _ | .bit5MemIx _ | .bit6MemIx _ | .bit7MemIx _ | .res0MemIx _ | .res1MemIx _ | .res2MemIx _ | .res3MemIx _
  | .res4MemIx _ | .res5MemIx _ | .res6MemIx _ | .res7MemIx _ | .set0MemIx _ | .set1MemIx _ | .set2MemIx _ | .set3MemIx _
  | .set4MemIx _ | .set5MemIx _ | .set6MemIx _ | .set7MemIx _ | .addIyBc | .addIyDe | .addIyIy | .addIySp
  | .ldIyNn _ | .ldMemNnIy _ | .incIy | .ldIyMemNn _ | .decIy | .incMemIy _ | .decMemIy _ | .ldMemIyN _ _
  | .ldBMemIy _ | .ldCMemIy _ | .ldDMemIy _ | .ldEMemIy _ | .ldHMemIy _ | .ldLMemIy _ | .ldAMemIy _ | .ldMemIyB _
  | .ldMemIyC _ | .ldMemIyD _ | .ldMemIyE _ | .ldMemIyH _ | .ldMemIyL _ | .ldMemIyA _ | .addAMemIy _ | .adcAMemIy _
  | .subMemIy _ | .sbcAMemIy _ | .andMemIy _ | .xorMemIy _ | .orMemIy _ | .cpMemIy _ | .popIy | .exMemSpIy
  | .pushIy | .jpIy | .ldSpIy | .rlcMemIy _ | .rrcMemIy _ | .rlMemIy _ | .rrMemIy _ | .slaMemIy _
  | .sraMemIy _ | .srlMemIy _ | .bit0MemIy _ | .bit1MemIy _ | .bit2MemIy _ | .bit3MemIy _ | .bit4MemIy _ | .bit5MemIy _
  | .bit6MemIy _ | .bit7MemIy _ | .res0MemIy _ | .res1MemIy _ | .res2MemIy _ | .res3MemIy _ | .res4MemIy _ | .res5MemIy _
  | .res6MemIy _ | .res7MemIy _ | .set0MemIy _ | .set1MemIy _ | .set2MemIy _ | .set3MemIy _ | .set4MemIy _ | .set5MemIy _
  | .set6MemIy _ | .set7MemIy _ | .inBPortC | .outPortCB | .inCPortC | .outPortCC | .inDPortC | .outPortCD
  | .inEPortC | .outPortCE | .inHPortC | .outPortCH | .inLPortC | .outPortCL | .inAPortC | .outPortCA
  | .sbcHlBc | .adcHlBc | .ldMemNnBc _ | .ldBcMemNn _ | .sbcHlDe | .adcHlDe | .ldMemNnDe _ | .ldDeMemNn _
  | .sbcHlHl | .adcHlHl | .ldMemNnHlEd _ | .ldHlMemNnEd _ | .sbcHlSp | .adcHlSp | .ldMemNnSp _ | .ldSpMemNn _
  | .neg | .retn | .im0 | .ldIA | .reti | .ldRA | .im1 | .ldAI
  | .im2 | .ldAR | .rrd | .rld | .ldi | .cpi | .ini | .outi
  | .ldd | .cpd | .ind | .outd | .ldir | .cpir | .inir | .otir
  | .lddr | .cpdr | .indr | .otdr => none

/-- Well formed: d and e, where present, lie in −128 to +127 (R125). -/
def Instr.wf (i : Instr) : Bool :=
  (match i.displacement with | some d => signedByte d | none => true) &&
    (match i.offset with | some e => signedByte e | none => true)

end Sys2Proof
end

