-- ==== Sys2Proof/Decode.lean ====
section
/-! DEFINITION. The decoder, from the tables of 30_encoding.md and opcode_table.json, and after it the encoder. The
bit-field, sign-extension and byte-order helpers stand here too. -/

namespace Sys2Proof

/-! ### Byte order and sign (R8, R82) -/

/-- `cat(h, l) = 256*h + l` (R8). -/
def cat (h l : Byte) : Word := BitVec.ofNat 16 (256 * h.toNat + l.toNat)

/-- `hi(w) = w[15:8]` (R8). -/
def hi (w : Word) : Byte := BitVec.ofNat 8 (w.toNat / 256)

/-- `lo(w) = w[7:0]` (R8). -/
def lo (w : Word) : Byte := BitVec.ofNat 8 w.toNat

/-- `sext_8(v)` is `v - 256` if `v >= 128` else `v` (R8). -/
def sext8 (v : Byte) : Int := if v.toNat ≥ 128 then (v.toNat : Int) - 256 else v.toNat

/-- The byte that encodes a signed operand (R112, R113). -/
def signedCode (v : Int) : Byte := BitVec.ofInt 8 v

/-! ### The decoder (R101) -/

/-- The operand bytes that follow the identifying bytes of a row (the formats of R100). -/
inductive Form where
  /-- None (`base`, `CB`, `ED`, `XY`). -/
  | op (i : Instr)
  /-- One unsigned byte (`base+n`). -/
  | n (f : Byte → Instr)
  /-- One signed byte, an offset (`base+e`). -/
  | e (f : Int → Instr)
  /-- Two bytes, low byte first (`base+nn`, `ED+nn`, `XY+nn`; R111). -/
  | nn (f : Word → Instr)
  /-- One signed byte, a displacement (`XY+d`; in `XYCB` it stands before the operation byte). -/
  | d (f : Int → Instr)
  /-- A displacement and then an unsigned byte (`XY+d+n`). -/
  | dn (f : Int → Byte → Instr)

/-- What the decoder says of the bytes it is given. -/
inductive Decoded where
  /-- The bytes begin an encoding and do not yet make it up: one more is needed. -/
  | more
  /-- Rejected by name: no row of the opcode table begins with these bytes, which are the ones that identify the
  encoding (R120, R121, R501). -/
  | invalidOpcode (bytes : List Byte)
  /-- An instruction, made of the first `len` bytes. -/
  | done (i : Instr) (len : Nat)
  deriving DecidableEq, Repr

/-- The row of a table that has the key, if any. -/
def lookup : List (Byte × Form) → Byte → Option Form
  | [], _ => none
  | (k, f) :: rest, b => if k = b then some f else lookup rest b

/-- Take the operand bytes of a row after its `head` identifying bytes (R100, R110 to R113). -/
def Form.finish (f : Form) (head : Nat) (bytes : List Byte) : Decoded :=
  match f with
  | .op i => .done i head
  | .n g =>
    match bytes with
    | v :: _ => .done (g v) (head + 1)
    | [] => .more
  | .e g =>
    match bytes with
    | v :: _ => .done (g (sext8 v)) (head + 1)
    | [] => .more
  | .nn g =>
    match bytes with
    | l :: h :: _ => .done (g (cat h l)) (head + 2)
    | _ => .more
  | .d g =>
    match bytes with
    | v :: _ => .done (g (sext8 v)) (head + 1)
    | [] => .more
  | .dn g =>
    match bytes with
    | v :: w :: _ => .done (g (sext8 v) w) (head + 2)
    | _ => .more

/-- The base table (R102), entries 00 to 1F. -/
def baseTable0 : List (Byte × Form) :=
  [(0x00#8, .op .nop), (0x01#8, .nn .ldBcNn), (0x02#8, .op .ldMemBcA), (0x03#8, .op .incBc), (0x04#8, .op .incB),
   (0x05#8, .op .decB), (0x06#8, .n .ldBN), (0x07#8, .op .rlca), (0x08#8, .op .exAfAf), (0x09#8, .op .addHlBc),
   (0x0A#8, .op .ldAMemBc), (0x0B#8, .op .decBc), (0x0C#8, .op .incC), (0x0D#8, .op .decC), (0x0E#8, .n .ldCN),
   (0x0F#8, .op .rrca), (0x10#8, .e .djnzE), (0x11#8, .nn .ldDeNn), (0x12#8, .op .ldMemDeA), (0x13#8, .op .incDe),
   (0x14#8, .op .incD), (0x15#8, .op .decD), (0x16#8, .n .ldDN), (0x17#8, .op .rla), (0x18#8, .e .jrE),
   (0x19#8, .op .addHlDe), (0x1A#8, .op .ldAMemDe), (0x1B#8, .op .decDe), (0x1C#8, .op .incE), (0x1D#8, .op .decE),
   (0x1E#8, .n .ldEN), (0x1F#8, .op .rra)]

/-- The base table (R102), entries 20 to 3F. -/
def baseTable1 : List (Byte × Form) :=
  [(0x20#8, .e .jrNzE), (0x21#8, .nn .ldHlNn), (0x22#8, .nn .ldMemNnHl), (0x23#8, .op .incHl), (0x24#8, .op .incH),
   (0x25#8, .op .decH), (0x26#8, .n .ldHN), (0x27#8, .op .daa), (0x28#8, .e .jrZE), (0x29#8, .op .addHlHl),
   (0x2A#8, .nn .ldHlMemNn), (0x2B#8, .op .decHl), (0x2C#8, .op .incL), (0x2D#8, .op .decL), (0x2E#8, .n .ldLN),
   (0x2F#8, .op .cpl), (0x30#8, .e .jrNcE), (0x31#8, .nn .ldSpNn), (0x32#8, .nn .ldMemNnA), (0x33#8, .op .incSp),
   (0x34#8, .op .incMemHl), (0x35#8, .op .decMemHl), (0x36#8, .n .ldMemHlN), (0x37#8, .op .scf), (0x38#8, .e .jrCE),
   (0x39#8, .op .addHlSp), (0x3A#8, .nn .ldAMemNn), (0x3B#8, .op .decSp), (0x3C#8, .op .incA), (0x3D#8, .op .decA),
   (0x3E#8, .n .ldAN), (0x3F#8, .op .ccf)]

/-- The base table (R102), entries 40 to 5F. -/
def baseTable2 : List (Byte × Form) :=
  [(0x40#8, .op .ldBB), (0x41#8, .op .ldBC), (0x42#8, .op .ldBD), (0x43#8, .op .ldBE), (0x44#8, .op .ldBH),
   (0x45#8, .op .ldBL), (0x46#8, .op .ldBMemHl), (0x47#8, .op .ldBA), (0x48#8, .op .ldCB), (0x49#8, .op .ldCC),
   (0x4A#8, .op .ldCD), (0x4B#8, .op .ldCE), (0x4C#8, .op .ldCH), (0x4D#8, .op .ldCL), (0x4E#8, .op .ldCMemHl),
   (0x4F#8, .op .ldCA), (0x50#8, .op .ldDB), (0x51#8, .op .ldDC), (0x52#8, .op .ldDD), (0x53#8, .op .ldDE),
   (0x54#8, .op .ldDH), (0x55#8, .op .ldDL), (0x56#8, .op .ldDMemHl), (0x57#8, .op .ldDA), (0x58#8, .op .ldEB),
   (0x59#8, .op .ldEC), (0x5A#8, .op .ldED), (0x5B#8, .op .ldEE), (0x5C#8, .op .ldEH), (0x5D#8, .op .ldEL),
   (0x5E#8, .op .ldEMemHl), (0x5F#8, .op .ldEA)]

/-- The base table (R102), entries 60 to 7F. -/
def baseTable3 : List (Byte × Form) :=
  [(0x60#8, .op .ldHB), (0x61#8, .op .ldHC), (0x62#8, .op .ldHD), (0x63#8, .op .ldHE), (0x64#8, .op .ldHH),
   (0x65#8, .op .ldHL), (0x66#8, .op .ldHMemHl), (0x67#8, .op .ldHA), (0x68#8, .op .ldLB), (0x69#8, .op .ldLC),
   (0x6A#8, .op .ldLD), (0x6B#8, .op .ldLE), (0x6C#8, .op .ldLH), (0x6D#8, .op .ldLL), (0x6E#8, .op .ldLMemHl),
   (0x6F#8, .op .ldLA), (0x70#8, .op .ldMemHlB), (0x71#8, .op .ldMemHlC), (0x72#8, .op .ldMemHlD),
   (0x73#8, .op .ldMemHlE), (0x74#8, .op .ldMemHlH), (0x75#8, .op .ldMemHlL), (0x76#8, .op .halt),
   (0x77#8, .op .ldMemHlA), (0x78#8, .op .ldAB), (0x79#8, .op .ldAC), (0x7A#8, .op .ldAD), (0x7B#8, .op .ldAE),
   (0x7C#8, .op .ldAH), (0x7D#8, .op .ldAL), (0x7E#8, .op .ldAMemHl), (0x7F#8, .op .ldAA)]

/-- The base table (R102), entries 80 to 9F. -/
def baseTable4 : List (Byte × Form) :=
  [(0x80#8, .op .addAB), (0x81#8, .op .addAC), (0x82#8, .op .addAD), (0x83#8, .op .addAE), (0x84#8, .op .addAH),
   (0x85#8, .op .addAL), (0x86#8, .op .addAMemHl), (0x87#8, .op .addAA), (0x88#8, .op .adcAB), (0x89#8, .op .adcAC),
   (0x8A#8, .op .adcAD), (0x8B#8, .op .adcAE), (0x8C#8, .op .adcAH), (0x8D#8, .op .adcAL), (0x8E#8, .op .adcAMemHl),
   (0x8F#8, .op .adcAA), (0x90#8, .op .subB), (0x91#8, .op .subC), (0x92#8, .op .subD), (0x93#8, .op .subE),
   (0x94#8, .op .subH), (0x95#8, .op .subL), (0x96#8, .op .subMemHl), (0x97#8, .op .subA), (0x98#8, .op .sbcAB),
   (0x99#8, .op .sbcAC), (0x9A#8, .op .sbcAD), (0x9B#8, .op .sbcAE), (0x9C#8, .op .sbcAH), (0x9D#8, .op .sbcAL),
   (0x9E#8, .op .sbcAMemHl), (0x9F#8, .op .sbcAA)]

/-- The base table (R102), entries A0 to BF. -/
def baseTable5 : List (Byte × Form) :=
  [(0xA0#8, .op .andB), (0xA1#8, .op .andC), (0xA2#8, .op .andD), (0xA3#8, .op .andE), (0xA4#8, .op .andH),
   (0xA5#8, .op .andL), (0xA6#8, .op .andMemHl), (0xA7#8, .op .andA), (0xA8#8, .op .xorB), (0xA9#8, .op .xorC),
   (0xAA#8, .op .xorD), (0xAB#8, .op .xorE), (0xAC#8, .op .xorH), (0xAD#8, .op .xorL), (0xAE#8, .op .xorMemHl),
   (0xAF#8, .op .xorA), (0xB0#8, .op .orB), (0xB1#8, .op .orC), (0xB2#8, .op .orD), (0xB3#8, .op .orE),
   (0xB4#8, .op .orH), (0xB5#8, .op .orL), (0xB6#8, .op .orMemHl), (0xB7#8, .op .orA), (0xB8#8, .op .cpB),
   (0xB9#8, .op .cpC), (0xBA#8, .op .cpD), (0xBB#8, .op .cpE), (0xBC#8, .op .cpH), (0xBD#8, .op .cpL),
   (0xBE#8, .op .cpMemHl), (0xBF#8, .op .cpA)]

/-- The base table (R102), entries C0 to E1. -/
def baseTable6 : List (Byte × Form) :=
  [(0xC0#8, .op .retNz), (0xC1#8, .op .popBc), (0xC2#8, .nn .jpNzNn), (0xC3#8, .nn .jpNn), (0xC4#8, .nn .callNzNn),
   (0xC5#8, .op .pushBc), (0xC6#8, .n .addAN), (0xC7#8, .op .rst00), (0xC8#8, .op .retZ), (0xC9#8, .op .ret),
   (0xCA#8, .nn .jpZNn), (0xCC#8, .nn .callZNn), (0xCD#8, .nn .callNn), (0xCE#8, .n .adcAN), (0xCF#8, .op .rst08),
   (0xD0#8, .op .retNc), (0xD1#8, .op .popDe), (0xD2#8, .nn .jpNcNn), (0xD3#8, .n .outPortNA),
   (0xD4#8, .nn .callNcNn), (0xD5#8, .op .pushDe), (0xD6#8, .n .subN), (0xD7#8, .op .rst10), (0xD8#8, .op .retC),
   (0xD9#8, .op .exx), (0xDA#8, .nn .jpCNn), (0xDB#8, .n .inAPortN), (0xDC#8, .nn .callCNn), (0xDE#8, .n .sbcAN),
   (0xDF#8, .op .rst18), (0xE0#8, .op .retPo), (0xE1#8, .op .popHl)]

/-- The base table (R102), entries E2 to FF. -/
def baseTable7 : List (Byte × Form) :=
  [(0xE2#8, .nn .jpPoNn), (0xE3#8, .op .exMemSpHl), (0xE4#8, .nn .callPoNn), (0xE5#8, .op .pushHl),
   (0xE6#8, .n .andN), (0xE7#8, .op .rst20), (0xE8#8, .op .retPe), (0xE9#8, .op .jpHl), (0xEA#8, .nn .jpPeNn),
   (0xEB#8, .op .exDeHl), (0xEC#8, .nn .callPeNn), (0xEE#8, .n .xorN), (0xEF#8, .op .rst28), (0xF0#8, .op .retP),
   (0xF1#8, .op .popAf), (0xF2#8, .nn .jpPNn), (0xF3#8, .op .di), (0xF4#8, .nn .callPNn), (0xF5#8, .op .pushAf),
   (0xF6#8, .n .orN), (0xF7#8, .op .rst30), (0xF8#8, .op .retM), (0xF9#8, .op .ldSpHl), (0xFA#8, .nn .jpMNn),
   (0xFB#8, .op .ei), (0xFC#8, .nn .callMNn), (0xFE#8, .n .cpN), (0xFF#8, .op .rst38)]

/-- The base table (R102). -/
def baseTable : List (Byte × Form) :=
  baseTable0 ++ baseTable1 ++ baseTable2 ++ baseTable3 ++ baseTable4 ++ baseTable5 ++ baseTable6 ++ baseTable7

/-- The CB table (R115), entries 00 to 1F. -/
def cbTable0 : List (Byte × Form) :=
  [(0x00#8, .op .rlcB), (0x01#8, .op .rlcC), (0x02#8, .op .rlcD), (0x03#8, .op .rlcE), (0x04#8, .op .rlcH),
   (0x05#8, .op .rlcL), (0x06#8, .op .rlcMemHl), (0x07#8, .op .rlcA), (0x08#8, .op .rrcB), (0x09#8, .op .rrcC),
   (0x0A#8, .op .rrcD), (0x0B#8, .op .rrcE), (0x0C#8, .op .rrcH), (0x0D#8, .op .rrcL), (0x0E#8, .op .rrcMemHl),
   (0x0F#8, .op .rrcA), (0x10#8, .op .rlB), (0x11#8, .op .rlC), (0x12#8, .op .rlD), (0x13#8, .op .rlE),
   (0x14#8, .op .rlH), (0x15#8, .op .rlL), (0x16#8, .op .rlMemHl), (0x17#8, .op .rlA), (0x18#8, .op .rrB),
   (0x19#8, .op .rrC), (0x1A#8, .op .rrD), (0x1B#8, .op .rrE), (0x1C#8, .op .rrH), (0x1D#8, .op .rrL),
   (0x1E#8, .op .rrMemHl), (0x1F#8, .op .rrA)]

/-- The CB table (R115), entries 20 to 47. -/
def cbTable1 : List (Byte × Form) :=
  [(0x20#8, .op .slaB), (0x21#8, .op .slaC), (0x22#8, .op .slaD), (0x23#8, .op .slaE), (0x24#8, .op .slaH),
   (0x25#8, .op .slaL), (0x26#8, .op .slaMemHl), (0x27#8, .op .slaA), (0x28#8, .op .sraB), (0x29#8, .op .sraC),
   (0x2A#8, .op .sraD), (0x2B#8, .op .sraE), (0x2C#8, .op .sraH), (0x2D#8, .op .sraL), (0x2E#8, .op .sraMemHl),
   (0x2F#8, .op .sraA), (0x38#8, .op .srlB), (0x39#8, .op .srlC), (0x3A#8, .op .srlD), (0x3B#8, .op .srlE),
   (0x3C#8, .op .srlH), (0x3D#8, .op .srlL), (0x3E#8, .op .srlMemHl), (0x3F#8, .op .srlA), (0x40#8, .op .bit0B),
   (0x41#8, .op .bit0C), (0x42#8, .op .bit0D), (0x43#8, .op .bit0E), (0x44#8, .op .bit0H), (0x45#8, .op .bit0L),
   (0x46#8, .op .bit0MemHl), (0x47#8, .op .bit0A)]

/-- The CB table (R115), entries 48 to 67. -/
def cbTable2 : List (Byte × Form) :=
  [(0x48#8, .op .bit1B), (0x49#8, .op .bit1C), (0x4A#8, .op .bit1D), (0x4B#8, .op .bit1E), (0x4C#8, .op .bit1H),
   (0x4D#8, .op .bit1L), (0x4E#8, .op .bit1MemHl), (0x4F#8, .op .bit1A), (0x50#8, .op .bit2B), (0x51#8, .op .bit2C),
   (0x52#8, .op .bit2D), (0x53#8, .op .bit2E), (0x54#8, .op .bit2H), (0x55#8, .op .bit2L), (0x56#8, .op .bit2MemHl),
   (0x57#8, .op .bit2A), (0x58#8, .op .bit3B), (0x59#8, .op .bit3C), (0x5A#8, .op .bit3D), (0x5B#8, .op .bit3E),
   (0x5C#8, .op .bit3H), (0x5D#8, .op .bit3L), (0x5E#8, .op .bit3MemHl), (0x5F#8, .op .bit3A), (0x60#8, .op .bit4B),
   (0x61#8, .op .bit4C), (0x62#8, .op .bit4D), (0x63#8, .op .bit4E), (0x64#8, .op .bit4H), (0x65#8, .op .bit4L),
   (0x66#8, .op .bit4MemHl), (0x67#8, .op .bit4A)]

/-- The CB table (R115), entries 68 to 87. -/
def cbTable3 : List (Byte × Form) :=
  [(0x68#8, .op .bit5B), (0x69#8, .op .bit5C), (0x6A#8, .op .bit5D), (0x6B#8, .op .bit5E), (0x6C#8, .op .bit5H),
   (0x6D#8, .op .bit5L), (0x6E#8, .op .bit5MemHl), (0x6F#8, .op .bit5A), (0x70#8, .op .bit6B), (0x71#8, .op .bit6C),
   (0x72#8, .op .bit6D), (0x73#8, .op .bit6E), (0x74#8, .op .bit6H), (0x75#8, .op .bit6L), (0x76#8, .op .bit6MemHl),
   (0x77#8, .op .bit6A), (0x78#8, .op .bit7B), (0x79#8, .op .bit7C), (0x7A#8, .op .bit7D), (0x7B#8, .op .bit7E),
   (0x7C#8, .op .bit7H), (0x7D#8, .op .bit7L), (0x7E#8, .op .bit7MemHl), (0x7F#8, .op .bit7A), (0x80#8, .op .res0B),
   (0x81#8, .op .res0C), (0x82#8, .op .res0D), (0x83#8, .op .res0E), (0x84#8, .op .res0H), (0x85#8, .op .res0L),
   (0x86#8, .op .res0MemHl), (0x87#8, .op .res0A)]

/-- The CB table (R115), entries 88 to A7. -/
def cbTable4 : List (Byte × Form) :=
  [(0x88#8, .op .res1B), (0x89#8, .op .res1C), (0x8A#8, .op .res1D), (0x8B#8, .op .res1E), (0x8C#8, .op .res1H),
   (0x8D#8, .op .res1L), (0x8E#8, .op .res1MemHl), (0x8F#8, .op .res1A), (0x90#8, .op .res2B), (0x91#8, .op .res2C),
   (0x92#8, .op .res2D), (0x93#8, .op .res2E), (0x94#8, .op .res2H), (0x95#8, .op .res2L), (0x96#8, .op .res2MemHl),
   (0x97#8, .op .res2A), (0x98#8, .op .res3B), (0x99#8, .op .res3C), (0x9A#8, .op .res3D), (0x9B#8, .op .res3E),
   (0x9C#8, .op .res3H), (0x9D#8, .op .res3L), (0x9E#8, .op .res3MemHl), (0x9F#8, .op .res3A), (0xA0#8, .op .res4B),
   (0xA1#8, .op .res4C), (0xA2#8, .op .res4D), (0xA3#8, .op .res4E), (0xA4#8, .op .res4H), (0xA5#8, .op .res4L),
   (0xA6#8, .op .res4MemHl), (0xA7#8, .op .res4A)]

/-- The CB table (R115), entries A8 to C7. -/
def cbTable5 : List (Byte × Form) :=
  [(0xA8#8, .op .res5B), (0xA9#8, .op .res5C), (0xAA#8, .op .res5D), (0xAB#8, .op .res5E), (0xAC#8, .op .res5H),
   (0xAD#8, .op .res5L), (0xAE#8, .op .res5MemHl), (0xAF#8, .op .res5A), (0xB0#8, .op .res6B), (0xB1#8, .op .res6C),
   (0xB2#8, .op .res6D), (0xB3#8, .op .res6E), (0xB4#8, .op .res6H), (0xB5#8, .op .res6L), (0xB6#8, .op .res6MemHl),
   (0xB7#8, .op .res6A), (0xB8#8, .op .res7B), (0xB9#8, .op .res7C), (0xBA#8, .op .res7D), (0xBB#8, .op .res7E),
   (0xBC#8, .op .res7H), (0xBD#8, .op .res7L), (0xBE#8, .op .res7MemHl), (0xBF#8, .op .res7A), (0xC0#8, .op .set0B),
   (0xC1#8, .op .set0C), (0xC2#8, .op .set0D), (0xC3#8, .op .set0E), (0xC4#8, .op .set0H), (0xC5#8, .op .set0L),
   (0xC6#8, .op .set0MemHl), (0xC7#8, .op .set0A)]

/-- The CB table (R115), entries C8 to E7. -/
def cbTable6 : List (Byte × Form) :=
  [(0xC8#8, .op .set1B), (0xC9#8, .op .set1C), (0xCA#8, .op .set1D), (0xCB#8, .op .set1E), (0xCC#8, .op .set1H),
   (0xCD#8, .op .set1L), (0xCE#8, .op .set1MemHl), (0xCF#8, .op .set1A), (0xD0#8, .op .set2B), (0xD1#8, .op .set2C),
   (0xD2#8, .op .set2D), (0xD3#8, .op .set2E), (0xD4#8, .op .set2H), (0xD5#8, .op .set2L), (0xD6#8, .op .set2MemHl),
   (0xD7#8, .op .set2A), (0xD8#8, .op .set3B), (0xD9#8, .op .set3C), (0xDA#8, .op .set3D), (0xDB#8, .op .set3E),
   (0xDC#8, .op .set3H), (0xDD#8, .op .set3L), (0xDE#8, .op .set3MemHl), (0xDF#8, .op .set3A), (0xE0#8, .op .set4B),
   (0xE1#8, .op .set4C), (0xE2#8, .op .set4D), (0xE3#8, .op .set4E), (0xE4#8, .op .set4H), (0xE5#8, .op .set4L),
   (0xE6#8, .op .set4MemHl), (0xE7#8, .op .set4A)]

/-- The CB table (R115), entries E8 to FF. -/
def cbTable7 : List (Byte × Form) :=
  [(0xE8#8, .op .set5B), (0xE9#8, .op .set5C), (0xEA#8, .op .set5D), (0xEB#8, .op .set5E), (0xEC#8, .op .set5H),
   (0xED#8, .op .set5L), (0xEE#8, .op .set5MemHl), (0xEF#8, .op .set5A), (0xF0#8, .op .set6B), (0xF1#8, .op .set6C),
   (0xF2#8, .op .set6D), (0xF3#8, .op .set6E), (0xF4#8, .op .set6H), (0xF5#8, .op .set6L), (0xF6#8, .op .set6MemHl),
   (0xF7#8, .op .set6A), (0xF8#8, .op .set7B), (0xF9#8, .op .set7C), (0xFA#8, .op .set7D), (0xFB#8, .op .set7E),
   (0xFC#8, .op .set7H), (0xFD#8, .op .set7L), (0xFE#8, .op .set7MemHl), (0xFF#8, .op .set7A)]

/-- The CB table (R115). -/
def cbTable : List (Byte × Form) :=
  cbTable0 ++ cbTable1 ++ cbTable2 ++ cbTable3 ++ cbTable4 ++ cbTable5 ++ cbTable6 ++ cbTable7

/-- The ED table (R118), entries 40 to 68. -/
def edTable0 : List (Byte × Form) :=
  [(0x40#8, .op .inBPortC), (0x41#8, .op .outPortCB), (0x42#8, .op .sbcHlBc), (0x43#8, .nn .ldMemNnBc),
   (0x44#8, .op .neg), (0x45#8, .op .retn), (0x46#8, .op .im0), (0x47#8, .op .ldIA), (0x48#8, .op .inCPortC),
   (0x49#8, .op .outPortCC), (0x4A#8, .op .adcHlBc), (0x4B#8, .nn .ldBcMemNn), (0x4D#8, .op .reti),
   (0x4F#8, .op .ldRA), (0x50#8, .op .inDPortC), (0x51#8, .op .outPortCD), (0x52#8, .op .sbcHlDe),
   (0x53#8, .nn .ldMemNnDe), (0x56#8, .op .im1), (0x57#8, .op .ldAI), (0x58#8, .op .inEPortC),
   (0x59#8, .op .outPortCE), (0x5A#8, .op .adcHlDe), (0x5B#8, .nn .ldDeMemNn), (0x5E#8, .op .im2),
   (0x5F#8, .op .ldAR), (0x60#8, .op .inHPortC), (0x61#8, .op .outPortCH), (0x62#8, .op .sbcHlHl),
   (0x63#8, .nn .ldMemNnHlEd), (0x67#8, .op .rrd), (0x68#8, .op .inLPortC)]

/-- The ED table (R118), entries 69 to BB. -/
def edTable1 : List (Byte × Form) :=
  [(0x69#8, .op .outPortCL), (0x6A#8, .op .adcHlHl), (0x6B#8, .nn .ldHlMemNnEd), (0x6F#8, .op .rld),
   (0x72#8, .op .sbcHlSp), (0x73#8, .nn .ldMemNnSp), (0x78#8, .op .inAPortC), (0x79#8, .op .outPortCA),
   (0x7A#8, .op .adcHlSp), (0x7B#8, .nn .ldSpMemNn), (0xA0#8, .op .ldi), (0xA1#8, .op .cpi), (0xA2#8, .op .ini),
   (0xA3#8, .op .outi), (0xA8#8, .op .ldd), (0xA9#8, .op .cpd), (0xAA#8, .op .ind), (0xAB#8, .op .outd),
   (0xB0#8, .op .ldir), (0xB1#8, .op .cpir), (0xB2#8, .op .inir), (0xB3#8, .op .otir), (0xB8#8, .op .lddr),
   (0xB9#8, .op .cpdr), (0xBA#8, .op .indr), (0xBB#8, .op .otdr)]

/-- The ED table (R118). -/
def edTable : List (Byte × Form) :=
  edTable0 ++ edTable1

/-- The index table under 0xDD (R116), entries 09 to AE. -/
def ixTable0 : List (Byte × Form) :=
  [(0x09#8, .op .addIxBc), (0x19#8, .op .addIxDe), (0x21#8, .nn .ldIxNn), (0x22#8, .nn .ldMemNnIx),
   (0x23#8, .op .incIx), (0x29#8, .op .addIxIx), (0x2A#8, .nn .ldIxMemNn), (0x2B#8, .op .decIx),
   (0x34#8, .d .incMemIx), (0x35#8, .d .decMemIx), (0x36#8, .dn .ldMemIxN), (0x39#8, .op .addIxSp),
   (0x46#8, .d .ldBMemIx), (0x4E#8, .d .ldCMemIx), (0x56#8, .d .ldDMemIx), (0x5E#8, .d .ldEMemIx),
   (0x66#8, .d .ldHMemIx), (0x6E#8, .d .ldLMemIx), (0x70#8, .d .ldMemIxB), (0x71#8, .d .ldMemIxC),
   (0x72#8, .d .ldMemIxD), (0x73#8, .d .ldMemIxE), (0x74#8, .d .ldMemIxH), (0x75#8, .d .ldMemIxL),
   (0x77#8, .d .ldMemIxA), (0x7E#8, .d .ldAMemIx), (0x86#8, .d .addAMemIx), (0x8E#8, .d .adcAMemIx),
   (0x96#8, .d .subMemIx), (0x9E#8, .d .sbcAMemIx), (0xA6#8, .d .andMemIx), (0xAE#8, .d .xorMemIx)]

/-- The index table under 0xDD (R116), entries B6 to F9. -/
def ixTable1 : List (Byte × Form) :=
  [(0xB6#8, .d .orMemIx), (0xBE#8, .d .cpMemIx), (0xE1#8, .op .popIx), (0xE3#8, .op .exMemSpIx),
   (0xE5#8, .op .pushIx), (0xE9#8, .op .jpIx), (0xF9#8, .op .ldSpIx)]

/-- The index table under 0xDD (R116). -/
def ixTable : List (Byte × Form) :=
  ixTable0 ++ ixTable1

/-- The index table under 0xFD (R116), entries 09 to AE. -/
def iyTable0 : List (Byte × Form) :=
  [(0x09#8, .op .addIyBc), (0x19#8, .op .addIyDe), (0x21#8, .nn .ldIyNn), (0x22#8, .nn .ldMemNnIy),
   (0x23#8, .op .incIy), (0x29#8, .op .addIyIy), (0x2A#8, .nn .ldIyMemNn), (0x2B#8, .op .decIy),
   (0x34#8, .d .incMemIy), (0x35#8, .d .decMemIy), (0x36#8, .dn .ldMemIyN), (0x39#8, .op .addIySp),
   (0x46#8, .d .ldBMemIy), (0x4E#8, .d .ldCMemIy), (0x56#8, .d .ldDMemIy), (0x5E#8, .d .ldEMemIy),
   (0x66#8, .d .ldHMemIy), (0x6E#8, .d .ldLMemIy), (0x70#8, .d .ldMemIyB), (0x71#8, .d .ldMemIyC),
   (0x72#8, .d .ldMemIyD), (0x73#8, .d .ldMemIyE), (0x74#8, .d .ldMemIyH), (0x75#8, .d .ldMemIyL),
   (0x77#8, .d .ldMemIyA), (0x7E#8, .d .ldAMemIy), (0x86#8, .d .addAMemIy), (0x8E#8, .d .adcAMemIy),
   (0x96#8, .d .subMemIy), (0x9E#8, .d .sbcAMemIy), (0xA6#8, .d .andMemIy), (0xAE#8, .d .xorMemIy)]

/-- The index table under 0xFD (R116), entries B6 to F9. -/
def iyTable1 : List (Byte × Form) :=
  [(0xB6#8, .d .orMemIy), (0xBE#8, .d .cpMemIy), (0xE1#8, .op .popIy), (0xE3#8, .op .exMemSpIy),
   (0xE5#8, .op .pushIy), (0xE9#8, .op .jpIy), (0xF9#8, .op .ldSpIy)]

/-- The index table under 0xFD (R116). -/
def iyTable : List (Byte × Form) :=
  iyTable0 ++ iyTable1

/-- The index-bit sub-escape under 0xDD, keyed by the operation byte b3 (R117). -/
def ixBitTable : List (Byte × Form) :=
  [(0x06#8, .d .rlcMemIx), (0x0E#8, .d .rrcMemIx), (0x16#8, .d .rlMemIx), (0x1E#8, .d .rrMemIx),
   (0x26#8, .d .slaMemIx), (0x2E#8, .d .sraMemIx), (0x3E#8, .d .srlMemIx), (0x46#8, .d .bit0MemIx),
   (0x4E#8, .d .bit1MemIx), (0x56#8, .d .bit2MemIx), (0x5E#8, .d .bit3MemIx), (0x66#8, .d .bit4MemIx),
   (0x6E#8, .d .bit5MemIx), (0x76#8, .d .bit6MemIx), (0x7E#8, .d .bit7MemIx), (0x86#8, .d .res0MemIx),
   (0x8E#8, .d .res1MemIx), (0x96#8, .d .res2MemIx), (0x9E#8, .d .res3MemIx), (0xA6#8, .d .res4MemIx),
   (0xAE#8, .d .res5MemIx), (0xB6#8, .d .res6MemIx), (0xBE#8, .d .res7MemIx), (0xC6#8, .d .set0MemIx),
   (0xCE#8, .d .set1MemIx), (0xD6#8, .d .set2MemIx), (0xDE#8, .d .set3MemIx), (0xE6#8, .d .set4MemIx),
   (0xEE#8, .d .set5MemIx), (0xF6#8, .d .set6MemIx), (0xFE#8, .d .set7MemIx)]

/-- The index-bit sub-escape under 0xFD, keyed by the operation byte b3 (R117). -/
def iyBitTable : List (Byte × Form) :=
  [(0x06#8, .d .rlcMemIy), (0x0E#8, .d .rrcMemIy), (0x16#8, .d .rlMemIy), (0x1E#8, .d .rrMemIy),
   (0x26#8, .d .slaMemIy), (0x2E#8, .d .sraMemIy), (0x3E#8, .d .srlMemIy), (0x46#8, .d .bit0MemIy),
   (0x4E#8, .d .bit1MemIy), (0x56#8, .d .bit2MemIy), (0x5E#8, .d .bit3MemIy), (0x66#8, .d .bit4MemIy),
   (0x6E#8, .d .bit5MemIy), (0x76#8, .d .bit6MemIy), (0x7E#8, .d .bit7MemIy), (0x86#8, .d .res0MemIy),
   (0x8E#8, .d .res1MemIy), (0x96#8, .d .res2MemIy), (0x9E#8, .d .res3MemIy), (0xA6#8, .d .res4MemIy),
   (0xAE#8, .d .res5MemIy), (0xB6#8, .d .res6MemIy), (0xBE#8, .d .res7MemIy), (0xC6#8, .d .set0MemIy),
   (0xCE#8, .d .set1MemIy), (0xD6#8, .d .set2MemIy), (0xDE#8, .d .set3MemIy), (0xE6#8, .d .set4MemIy),
   (0xEE#8, .d .set5MemIy), (0xF6#8, .d .set6MemIy), (0xFE#8, .d .set7MemIy)]

/-- Decode after a one-byte escape `b0` into a secondary table: CB and ED (R101, R115, R118). -/
def decodeEscape (table : List (Byte × Form)) (b0 : Byte) (bytes : List Byte) : Decoded :=
  match bytes with
  | [] => .more
  | b1 :: rest =>
    match lookup table b1 with
    | some f => f.finish 2 rest
    | none => .invalidOpcode [b0, b1]

/-- Decode after an index byte 0xDD or 0xFD: the index table, or its CB sub-escape, in which the displacement
stands before the operation byte (R101, R116, R117, R121). -/
def decodeIndex (table bits : List (Byte × Form)) (b0 : Byte) (bytes : List Byte) : Decoded :=
  match bytes with
  | [] => .more
  | b1 :: rest =>
    if b1 = 0xCB#8 then
      match rest with
      | b2 :: b3 :: _ =>
        match lookup bits b3 with
        | some (.d g) => .done (g (sext8 b2)) 4
        | some _ => .invalidOpcode [b0, b1, b2, b3]
        | none => .invalidOpcode [b0, b1, b2, b3]
      | _ => .more
    else
      match lookup table b1 with
      | some f => f.finish 2 rest
      | none => .invalidOpcode [b0, b1]

/-- Decode the instruction that a list of bytes begins with (R101); bytes after it are not looked at. -/
def decode (bytes : List Byte) : Decoded :=
  match bytes with
  | [] => .more
  | b0 :: rest =>
    if b0 = 0xCB#8 then decodeEscape cbTable b0 rest
    else if b0 = 0xED#8 then decodeEscape edTable b0 rest
    else if b0 = 0xDD#8 then decodeIndex ixTable ixBitTable b0 rest
    else if b0 = 0xFD#8 then decodeIndex iyTable iyBitTable b0 rest
    else
      match lookup baseTable b0 with
      | some f => f.finish 1 rest
      | none => .invalidOpcode [b0]

/-- The M1 fetches of an instruction with these bytes: one for an instruction of the base table, two for one
under an escape byte; the displacement and the final opcode byte of DDCB and FDCB are none (R47). -/
def m1Fetches (bytes : List Byte) : Nat :=
  match bytes with
  | [] => 0
  | b0 :: _ => if b0 = 0xCB#8 ∨ b0 = 0xED#8 ∨ b0 = 0xDD#8 ∨ b0 = 0xFD#8 then 2 else 1

/-- The length under an index byte 0xDD or 0xFD, from the second byte (R116, R119). -/
def indexLength (b1 : Byte) : Nat :=
  if [0x21#8, 0x22#8, 0x2A#8, 0x36#8, 0xCB#8].contains b1 then 4
  else if [0x34#8, 0x35#8, 0x46#8, 0x4E#8, 0x56#8, 0x5E#8, 0x66#8, 0x6E#8, 0x7E#8, 0x70#8, 0x71#8, 0x72#8, 0x73#8,
      0x74#8, 0x75#8, 0x77#8, 0x86#8, 0x8E#8, 0x96#8, 0x9E#8, 0xA6#8, 0xAE#8, 0xB6#8, 0xBE#8].contains b1 then 3
  else 2

/-- The length of an instruction from its first two bytes, the first alone where it is no prefix (R119). -/
def instructionLength (b0 b1 : Byte) : Nat :=
  if b0 = 0xCB#8 then 2
  else if b0 = 0xED#8 then
    if [0x43#8, 0x4B#8, 0x53#8, 0x5B#8, 0x63#8, 0x6B#8, 0x73#8, 0x7B#8].contains b1 then 4 else 2
  else if b0 = 0xDD#8 ∨ b0 = 0xFD#8 then indexLength b1
  else if [0x06#8, 0x0E#8, 0x16#8, 0x1E#8, 0x26#8, 0x2E#8, 0x36#8, 0x3E#8, 0xC6#8, 0xCE#8, 0xD3#8, 0xD6#8, 0xDB#8,
      0xDE#8, 0xE6#8, 0xEE#8, 0xF6#8, 0xFE#8, 0x10#8, 0x18#8, 0x20#8, 0x28#8, 0x30#8, 0x38#8].contains b0 then 2
  else if [0x01#8, 0x11#8, 0x21#8, 0x31#8, 0x22#8, 0x2A#8, 0x32#8, 0x3A#8, 0xC2#8, 0xC3#8, 0xC4#8, 0xCA#8, 0xCC#8,
      0xCD#8, 0xD2#8, 0xD4#8, 0xDA#8, 0xDC#8, 0xE2#8, 0xE4#8, 0xEA#8, 0xEC#8, 0xF2#8, 0xF4#8, 0xFA#8,
      0xFC#8].contains b0 then 3
  else 1

/-- The first `k` bytes of an instruction whose bits are `w`, numbered as opcode_table.json numbers them. -/
def tableBytes : Nat → Nat → List Byte
  | 0, _ => []
  | k + 1, w => BitVec.ofNat 8 w :: tableBytes k (w / 256)

/-- The four bytes (the longest length, R100) of an instruction whose low `nbits` bits are those of `w` and whose
other bits are 0. -/
def wordBytes (nbits w : Nat) : List Byte := tableBytes 4 (w % 2 ^ nbits)

/-- What the decoder reads from an instruction given as a number (bit 0 the least significant bit of its first
byte). -/
def decodeTableWord (nbits w : Nat) : Option Instr :=
  match decode (wordBytes nbits w) with
  | .done i _ => some i
  | .more => none
  | .invalidOpcode _ => none

/-! ### The encoder -/

/-- The bytes of an instruction (R100, R102, R115 to R118), in the order of their addresses. -/
def encode : Instr → List Byte
  | .nop => [0x00#8]
  | .ldBcNn nn => [0x01#8, lo nn, hi nn]
  | .ldMemBcA => [0x02#8]
  | .incBc => [0x03#8]
  | .incB => [0x04#8]
  | .decB => [0x05#8]
  | .ldBN n => [0x06#8, n]
  | .rlca => [0x07#8]
  | .exAfAf => [0x08#8]
  | .addHlBc => [0x09#8]
  | .ldAMemBc => [0x0A#8]
  | .decBc => [0x0B#8]
  | .incC => [0x0C#8]
  | .decC => [0x0D#8]
  | .ldCN n => [0x0E#8, n]
  | .rrca => [0x0F#8]
  | .djnzE e => [0x10#8, signedCode e]
  | .ldDeNn nn => [0x11#8, lo nn, hi nn]
  | .ldMemDeA => [0x12#8]
  | .incDe => [0x13#8]
  | .incD => [0x14#8]
  | .decD => [0x15#8]
  | .ldDN n => [0x16#8, n]
  | .rla => [0x17#8]
  | .jrE e => [0x18#8, signedCode e]
  | .addHlDe => [0x19#8]
  | .ldAMemDe => [0x1A#8]
  | .decDe => [0x1B#8]
  | .incE => [0x1C#8]
  | .decE => [0x1D#8]
  | .ldEN n => [0x1E#8, n]
  | .rra => [0x1F#8]
  | .jrNzE e => [0x20#8, signedCode e]
  | .ldHlNn nn => [0x21#8, lo nn, hi nn]
  | .ldMemNnHl nn => [0x22#8, lo nn, hi nn]
  | .incHl => [0x23#8]
  | .incH => [0x24#8]
  | .decH => [0x25#8]
  | .ldHN n => [0x26#8, n]
  | .daa => [0x27#8]
  | .jrZE e => [0x28#8, signedCode e]
  | .addHlHl => [0x29#8]
  | .ldHlMemNn nn => [0x2A#8, lo nn, hi nn]
  | .decHl => [0x2B#8]
  | .incL => [0x2C#8]
  | .decL => [0x2D#8]
  | .ldLN n => [0x2E#8, n]
  | .cpl => [0x2F#8]
  | .jrNcE e => [0x30#8, signedCode e]
  | .ldSpNn nn => [0x31#8, lo nn, hi nn]
  | .ldMemNnA nn => [0x32#8, lo nn, hi nn]
  | .incSp => [0x33#8]
  | .incMemHl => [0x34#8]
  | .decMemHl => [0x35#8]
  | .ldMemHlN n => [0x36#8, n]
  | .scf => [0x37#8]
  | .jrCE e => [0x38#8, signedCode e]
  | .addHlSp => [0x39#8]
  | .ldAMemNn nn => [0x3A#8, lo nn, hi nn]
  | .decSp => [0x3B#8]
  | .incA => [0x3C#8]
  | .decA => [0x3D#8]
  | .ldAN n => [0x3E#8, n]
  | .ccf => [0x3F#8]
  | .ldBB => [0x40#8]
  | .ldBC => [0x41#8]
  | .ldBD => [0x42#8]
  | .ldBE => [0x43#8]
  | .ldBH => [0x44#8]
  | .ldBL => [0x45#8]
  | .ldBMemHl => [0x46#8]
  | .ldBA => [0x47#8]
  | .ldCB => [0x48#8]
  | .ldCC => [0x49#8]
  | .ldCD => [0x4A#8]
  | .ldCE => [0x4B#8]
  | .ldCH => [0x4C#8]
  | .ldCL => [0x4D#8]
  | .ldCMemHl => [0x4E#8]
  | .ldCA => [0x4F#8]
  | .ldDB => [0x50#8]
  | .ldDC => [0x51#8]
  | .ldDD => [0x52#8]
  | .ldDE => [0x53#8]
  | .ldDH => [0x54#8]
  | .ldDL => [0x55#8]
  | .ldDMemHl => [0x56#8]
  | .ldDA => [0x57#8]
  | .ldEB => [0x58#8]
  | .ldEC => [0x59#8]
  | .ldED => [0x5A#8]
  | .ldEE => [0x5B#8]
  | .ldEH => [0x5C#8]
  | .ldEL => [0x5D#8]
  | .ldEMemHl => [0x5E#8]
  | .ldEA => [0x5F#8]
  | .ldHB => [0x60#8]
  | .ldHC => [0x61#8]
  | .ldHD => [0x62#8]
  | .ldHE => [0x63#8]
  | .ldHH => [0x64#8]
  | .ldHL => [0x65#8]
  | .ldHMemHl => [0x66#8]
  | .ldHA => [0x67#8]
  | .ldLB => [0x68#8]
  | .ldLC => [0x69#8]
  | .ldLD => [0x6A#8]
  | .ldLE => [0x6B#8]
  | .ldLH => [0x6C#8]
  | .ldLL => [0x6D#8]
  | .ldLMemHl => [0x6E#8]
  | .ldLA => [0x6F#8]
  | .ldMemHlB => [0x70#8]
  | .ldMemHlC => [0x71#8]
  | .ldMemHlD => [0x72#8]
  | .ldMemHlE => [0x73#8]
  | .ldMemHlH => [0x74#8]
  | .ldMemHlL => [0x75#8]
  | .halt => [0x76#8]
  | .ldMemHlA => [0x77#8]
  | .ldAB => [0x78#8]
  | .ldAC => [0x79#8]
  | .ldAD => [0x7A#8]
  | .ldAE => [0x7B#8]
  | .ldAH => [0x7C#8]
  | .ldAL => [0x7D#8]
  | .ldAMemHl => [0x7E#8]
  | .ldAA => [0x7F#8]
  | .addAB => [0x80#8]
  | .addAC => [0x81#8]
  | .addAD => [0x82#8]
  | .addAE => [0x83#8]
  | .addAH => [0x84#8]
  | .addAL => [0x85#8]
  | .addAMemHl => [0x86#8]
  | .addAA => [0x87#8]
  | .adcAB => [0x88#8]
  | .adcAC => [0x89#8]
  | .adcAD => [0x8A#8]
  | .adcAE => [0x8B#8]
  | .adcAH => [0x8C#8]
  | .adcAL => [0x8D#8]
  | .adcAMemHl => [0x8E#8]
  | .adcAA => [0x8F#8]
  | .subB => [0x90#8]
  | .subC => [0x91#8]
  | .subD => [0x92#8]
  | .subE => [0x93#8]
  | .subH => [0x94#8]
  | .subL => [0x95#8]
  | .subMemHl => [0x96#8]
  | .subA => [0x97#8]
  | .sbcAB => [0x98#8]
  | .sbcAC => [0x99#8]
  | .sbcAD => [0x9A#8]
  | .sbcAE => [0x9B#8]
  | .sbcAH => [0x9C#8]
  | .sbcAL => [0x9D#8]
  | .sbcAMemHl => [0x9E#8]
  | .sbcAA => [0x9F#8]
  | .andB => [0xA0#8]
  | .andC => [0xA1#8]
  | .andD => [0xA2#8]
  | .andE => [0xA3#8]
  | .andH => [0xA4#8]
  | .andL => [0xA5#8]
  | .andMemHl => [0xA6#8]
  | .andA => [0xA7#8]
  | .xorB => [0xA8#8]
  | .xorC => [0xA9#8]
  | .xorD => [0xAA#8]
  | .xorE => [0xAB#8]
  | .xorH => [0xAC#8]
  | .xorL => [0xAD#8]
  | .xorMemHl => [0xAE#8]
  | .xorA => [0xAF#8]
  | .orB => [0xB0#8]
  | .orC => [0xB1#8]
  | .orD => [0xB2#8]
  | .orE => [0xB3#8]
  | .orH => [0xB4#8]
  | .orL => [0xB5#8]
  | .orMemHl => [0xB6#8]
  | .orA => [0xB7#8]
  | .cpB => [0xB8#8]
  | .cpC => [0xB9#8]
  | .cpD => [0xBA#8]
  | .cpE => [0xBB#8]
  | .cpH => [0xBC#8]
  | .cpL => [0xBD#8]
  | .cpMemHl => [0xBE#8]
  | .cpA => [0xBF#8]
  | .retNz => [0xC0#8]
  | .popBc => [0xC1#8]
  | .jpNzNn nn => [0xC2#8, lo nn, hi nn]
  | .jpNn nn => [0xC3#8, lo nn, hi nn]
  | .callNzNn nn => [0xC4#8, lo nn, hi nn]
  | .pushBc => [0xC5#8]
  | .addAN n => [0xC6#8, n]
  | .rst00 => [0xC7#8]
  | .retZ => [0xC8#8]
  | .ret => [0xC9#8]
  | .jpZNn nn => [0xCA#8, lo nn, hi nn]
  | .callZNn nn => [0xCC#8, lo nn, hi nn]
  | .callNn nn => [0xCD#8, lo nn, hi nn]
  | .adcAN n => [0xCE#8, n]
  | .rst08 => [0xCF#8]
  | .retNc => [0xD0#8]
  | .popDe => [0xD1#8]
  | .jpNcNn nn => [0xD2#8, lo nn, hi nn]
  | .outPortNA n => [0xD3#8, n]
  | .callNcNn nn => [0xD4#8, lo nn, hi nn]
  | .pushDe => [0xD5#8]
  | .subN n => [0xD6#8, n]
  | .rst10 => [0xD7#8]
  | .retC => [0xD8#8]
  | .exx => [0xD9#8]
  | .jpCNn nn => [0xDA#8, lo nn, hi nn]
  | .inAPortN n => [0xDB#8, n]
  | .callCNn nn => [0xDC#8, lo nn, hi nn]
  | .sbcAN n => [0xDE#8, n]
  | .rst18 => [0xDF#8]
  | .retPo => [0xE0#8]
  | .popHl => [0xE1#8]
  | .jpPoNn nn => [0xE2#8, lo nn, hi nn]
  | .exMemSpHl => [0xE3#8]
  | .callPoNn nn => [0xE4#8, lo nn, hi nn]
  | .pushHl => [0xE5#8]
  | .andN n => [0xE6#8, n]
  | .rst20 => [0xE7#8]
  | .retPe => [0xE8#8]
  | .jpHl => [0xE9#8]
  | .jpPeNn nn => [0xEA#8, lo nn, hi nn]
  | .exDeHl => [0xEB#8]
  | .callPeNn nn => [0xEC#8, lo nn, hi nn]
  | .xorN n => [0xEE#8, n]
  | .rst28 => [0xEF#8]
  | .retP => [0xF0#8]
  | .popAf => [0xF1#8]
  | .jpPNn nn => [0xF2#8, lo nn, hi nn]
  | .di => [0xF3#8]
  | .callPNn nn => [0xF4#8, lo nn, hi nn]
  | .pushAf => [0xF5#8]
  | .orN n => [0xF6#8, n]
  | .rst30 => [0xF7#8]
  | .retM => [0xF8#8]
  | .ldSpHl => [0xF9#8]
  | .jpMNn nn => [0xFA#8, lo nn, hi nn]
  | .ei => [0xFB#8]
  | .callMNn nn => [0xFC#8, lo nn, hi nn]
  | .cpN n => [0xFE#8, n]
  | .rst38 => [0xFF#8]
  | .rlcB => [0xCB#8, 0x00#8]
  | .rlcC => [0xCB#8, 0x01#8]
  | .rlcD => [0xCB#8, 0x02#8]
  | .rlcE => [0xCB#8, 0x03#8]
  | .rlcH => [0xCB#8, 0x04#8]
  | .rlcL => [0xCB#8, 0x05#8]
  | .rlcMemHl => [0xCB#8, 0x06#8]
  | .rlcA => [0xCB#8, 0x07#8]
  | .rrcB => [0xCB#8, 0x08#8]
  | .rrcC => [0xCB#8, 0x09#8]
  | .rrcD => [0xCB#8, 0x0A#8]
  | .rrcE => [0xCB#8, 0x0B#8]
  | .rrcH => [0xCB#8, 0x0C#8]
  | .rrcL => [0xCB#8, 0x0D#8]
  | .rrcMemHl => [0xCB#8, 0x0E#8]
  | .rrcA => [0xCB#8, 0x0F#8]
  | .rlB => [0xCB#8, 0x10#8]
  | .rlC => [0xCB#8, 0x11#8]
  | .rlD => [0xCB#8, 0x12#8]
  | .rlE => [0xCB#8, 0x13#8]
  | .rlH => [0xCB#8, 0x14#8]
  | .rlL => [0xCB#8, 0x15#8]
  | .rlMemHl => [0xCB#8, 0x16#8]
  | .rlA => [0xCB#8, 0x17#8]
  | .rrB => [0xCB#8, 0x18#8]
  | .rrC => [0xCB#8, 0x19#8]
  | .rrD => [0xCB#8, 0x1A#8]
  | .rrE => [0xCB#8, 0x1B#8]
  | .rrH => [0xCB#8, 0x1C#8]
  | .rrL => [0xCB#8, 0x1D#8]
  | .rrMemHl => [0xCB#8, 0x1E#8]
  | .rrA => [0xCB#8, 0x1F#8]
  | .slaB => [0xCB#8, 0x20#8]
  | .slaC => [0xCB#8, 0x21#8]
  | .slaD => [0xCB#8, 0x22#8]
  | .slaE => [0xCB#8, 0x23#8]
  | .slaH => [0xCB#8, 0x24#8]
  | .slaL => [0xCB#8, 0x25#8]
  | .slaMemHl => [0xCB#8, 0x26#8]
  | .slaA => [0xCB#8, 0x27#8]
  | .sraB => [0xCB#8, 0x28#8]
  | .sraC => [0xCB#8, 0x29#8]
  | .sraD => [0xCB#8, 0x2A#8]
  | .sraE => [0xCB#8, 0x2B#8]
  | .sraH => [0xCB#8, 0x2C#8]
  | .sraL => [0xCB#8, 0x2D#8]
  | .sraMemHl => [0xCB#8, 0x2E#8]
  | .sraA => [0xCB#8, 0x2F#8]
  | .srlB => [0xCB#8, 0x38#8]
  | .srlC => [0xCB#8, 0x39#8]
  | .srlD => [0xCB#8, 0x3A#8]
  | .srlE => [0xCB#8, 0x3B#8]
  | .srlH => [0xCB#8, 0x3C#8]
  | .srlL => [0xCB#8, 0x3D#8]
  | .srlMemHl => [0xCB#8, 0x3E#8]
  | .srlA => [0xCB#8, 0x3F#8]
  | .bit0B => [0xCB#8, 0x40#8]
  | .bit0C => [0xCB#8, 0x41#8]
  | .bit0D => [0xCB#8, 0x42#8]
  | .bit0E => [0xCB#8, 0x43#8]
  | .bit0H => [0xCB#8, 0x44#8]
  | .bit0L => [0xCB#8, 0x45#8]
  | .bit0MemHl => [0xCB#8, 0x46#8]
  | .bit0A => [0xCB#8, 0x47#8]
  | .bit1B => [0xCB#8, 0x48#8]
  | .bit1C => [0xCB#8, 0x49#8]
  | .bit1D => [0xCB#8, 0x4A#8]
  | .bit1E => [0xCB#8, 0x4B#8]
  | .bit1H => [0xCB#8, 0x4C#8]
  | .bit1L => [0xCB#8, 0x4D#8]
  | .bit1MemHl => [0xCB#8, 0x4E#8]
  | .bit1A => [0xCB#8, 0x4F#8]
  | .bit2B => [0xCB#8, 0x50#8]
  | .bit2C => [0xCB#8, 0x51#8]
  | .bit2D => [0xCB#8, 0x52#8]
  | .bit2E => [0xCB#8, 0x53#8]
  | .bit2H => [0xCB#8, 0x54#8]
  | .bit2L => [0xCB#8, 0x55#8]
  | .bit2MemHl => [0xCB#8, 0x56#8]
  | .bit2A => [0xCB#8, 0x57#8]
  | .bit3B => [0xCB#8, 0x58#8]
  | .bit3C => [0xCB#8, 0x59#8]
  | .bit3D => [0xCB#8, 0x5A#8]
  | .bit3E => [0xCB#8, 0x5B#8]
  | .bit3H => [0xCB#8, 0x5C#8]
  | .bit3L => [0xCB#8, 0x5D#8]
  | .bit3MemHl => [0xCB#8, 0x5E#8]
  | .bit3A => [0xCB#8, 0x5F#8]
  | .bit4B => [0xCB#8, 0x60#8]
  | .bit4C => [0xCB#8, 0x61#8]
  | .bit4D => [0xCB#8, 0x62#8]
  | .bit4E => [0xCB#8, 0x63#8]
  | .bit4H => [0xCB#8, 0x64#8]
  | .bit4L => [0xCB#8, 0x65#8]
  | .bit4MemHl => [0xCB#8, 0x66#8]
  | .bit4A => [0xCB#8, 0x67#8]
  | .bit5B => [0xCB#8, 0x68#8]
  | .bit5C => [0xCB#8, 0x69#8]
  | .bit5D => [0xCB#8, 0x6A#8]
  | .bit5E => [0xCB#8, 0x6B#8]
  | .bit5H => [0xCB#8, 0x6C#8]
  | .bit5L => [0xCB#8, 0x6D#8]
  | .bit5MemHl => [0xCB#8, 0x6E#8]
  | .bit5A => [0xCB#8, 0x6F#8]
  | .bit6B => [0xCB#8, 0x70#8]
  | .bit6C => [0xCB#8, 0x71#8]
  | .bit6D => [0xCB#8, 0x72#8]
  | .bit6E => [0xCB#8, 0x73#8]
  | .bit6H => [0xCB#8, 0x74#8]
  | .bit6L => [0xCB#8, 0x75#8]
  | .bit6MemHl => [0xCB#8, 0x76#8]
  | .bit6A => [0xCB#8, 0x77#8]
  | .bit7B => [0xCB#8, 0x78#8]
  | .bit7C => [0xCB#8, 0x79#8]
  | .bit7D => [0xCB#8, 0x7A#8]
  | .bit7E => [0xCB#8, 0x7B#8]
  | .bit7H => [0xCB#8, 0x7C#8]
  | .bit7L => [0xCB#8, 0x7D#8]
  | .bit7MemHl => [0xCB#8, 0x7E#8]
  | .bit7A => [0xCB#8, 0x7F#8]
  | .res0B => [0xCB#8, 0x80#8]
  | .res0C => [0xCB#8, 0x81#8]
  | .res0D => [0xCB#8, 0x82#8]
  | .res0E => [0xCB#8, 0x83#8]
  | .res0H => [0xCB#8, 0x84#8]
  | .res0L => [0xCB#8, 0x85#8]
  | .res0MemHl => [0xCB#8, 0x86#8]
  | .res0A => [0xCB#8, 0x87#8]
  | .res1B => [0xCB#8, 0x88#8]
  | .res1C => [0xCB#8, 0x89#8]
  | .res1D => [0xCB#8, 0x8A#8]
  | .res1E => [0xCB#8, 0x8B#8]
  | .res1H => [0xCB#8, 0x8C#8]
  | .res1L => [0xCB#8, 0x8D#8]
  | .res1MemHl => [0xCB#8, 0x8E#8]
  | .res1A => [0xCB#8, 0x8F#8]
  | .res2B => [0xCB#8, 0x90#8]
  | .res2C => [0xCB#8, 0x91#8]
  | .res2D => [0xCB#8, 0x92#8]
  | .res2E => [0xCB#8, 0x93#8]
  | .res2H => [0xCB#8, 0x94#8]
  | .res2L => [0xCB#8, 0x95#8]
  | .res2MemHl => [0xCB#8, 0x96#8]
  | .res2A => [0xCB#8, 0x97#8]
  | .res3B => [0xCB#8, 0x98#8]
  | .res3C => [0xCB#8, 0x99#8]
  | .res3D => [0xCB#8, 0x9A#8]
  | .res3E => [0xCB#8, 0x9B#8]
  | .res3H => [0xCB#8, 0x9C#8]
  | .res3L => [0xCB#8, 0x9D#8]
  | .res3MemHl => [0xCB#8, 0x9E#8]
  | .res3A => [0xCB#8, 0x9F#8]
  | .res4B => [0xCB#8, 0xA0#8]
  | .res4C => [0xCB#8, 0xA1#8]
  | .res4D => [0xCB#8, 0xA2#8]
  | .res4E => [0xCB#8, 0xA3#8]
  | .res4H => [0xCB#8, 0xA4#8]
  | .res4L => [0xCB#8, 0xA5#8]
  | .res4MemHl => [0xCB#8, 0xA6#8]
  | .res4A => [0xCB#8, 0xA7#8]
  | .res5B => [0xCB#8, 0xA8#8]
  | .res5C => [0xCB#8, 0xA9#8]
  | .res5D => [0xCB#8, 0xAA#8]
  | .res5E => [0xCB#8, 0xAB#8]
  | .res5H => [0xCB#8, 0xAC#8]
  | .res5L => [0xCB#8, 0xAD#8]
  | .res5MemHl => [0xCB#8, 0xAE#8]
  | .res5A => [0xCB#8, 0xAF#8]
  | .res6B => [0xCB#8, 0xB0#8]
  | .res6C => [0xCB#8, 0xB1#8]
  | .res6D => [0xCB#8, 0xB2#8]
  | .res6E => [0xCB#8, 0xB3#8]
  | .res6H => [0xCB#8, 0xB4#8]
  | .res6L => [0xCB#8, 0xB5#8]
  | .res6MemHl => [0xCB#8, 0xB6#8]
  | .res6A => [0xCB#8, 0xB7#8]
  | .res7B => [0xCB#8, 0xB8#8]
  | .res7C => [0xCB#8, 0xB9#8]
  | .res7D => [0xCB#8, 0xBA#8]
  | .res7E => [0xCB#8, 0xBB#8]
  | .res7H => [0xCB#8, 0xBC#8]
  | .res7L => [0xCB#8, 0xBD#8]
  | .res7MemHl => [0xCB#8, 0xBE#8]
  | .res7A => [0xCB#8, 0xBF#8]
  | .set0B => [0xCB#8, 0xC0#8]
  | .set0C => [0xCB#8, 0xC1#8]
  | .set0D => [0xCB#8, 0xC2#8]
  | .set0E => [0xCB#8, 0xC3#8]
  | .set0H => [0xCB#8, 0xC4#8]
  | .set0L => [0xCB#8, 0xC5#8]
  | .set0MemHl => [0xCB#8, 0xC6#8]
  | .set0A => [0xCB#8, 0xC7#8]
  | .set1B => [0xCB#8, 0xC8#8]
  | .set1C => [0xCB#8, 0xC9#8]
  | .set1D => [0xCB#8, 0xCA#8]
  | .set1E => [0xCB#8, 0xCB#8]
  | .set1H => [0xCB#8, 0xCC#8]
  | .set1L => [0xCB#8, 0xCD#8]
  | .set1MemHl => [0xCB#8, 0xCE#8]
  | .set1A => [0xCB#8, 0xCF#8]
  | .set2B => [0xCB#8, 0xD0#8]
  | .set2C => [0xCB#8, 0xD1#8]
  | .set2D => [0xCB#8, 0xD2#8]
  | .set2E => [0xCB#8, 0xD3#8]
  | .set2H => [0xCB#8, 0xD4#8]
  | .set2L => [0xCB#8, 0xD5#8]
  | .set2MemHl => [0xCB#8, 0xD6#8]
  | .set2A => [0xCB#8, 0xD7#8]
  | .set3B => [0xCB#8, 0xD8#8]
  | .set3C => [0xCB#8, 0xD9#8]
  | .set3D => [0xCB#8, 0xDA#8]
  | .set3E => [0xCB#8, 0xDB#8]
  | .set3H => [0xCB#8, 0xDC#8]
  | .set3L => [0xCB#8, 0xDD#8]
  | .set3MemHl => [0xCB#8, 0xDE#8]
  | .set3A => [0xCB#8, 0xDF#8]
  | .set4B => [0xCB#8, 0xE0#8]
  | .set4C => [0xCB#8, 0xE1#8]
  | .set4D => [0xCB#8, 0xE2#8]
  | .set4E => [0xCB#8, 0xE3#8]
  | .set4H => [0xCB#8, 0xE4#8]
  | .set4L => [0xCB#8, 0xE5#8]
  | .set4MemHl => [0xCB#8, 0xE6#8]
  | .set4A => [0xCB#8, 0xE7#8]
  | .set5B => [0xCB#8, 0xE8#8]
  | .set5C => [0xCB#8, 0xE9#8]
  | .set5D => [0xCB#8, 0xEA#8]
  | .set5E => [0xCB#8, 0xEB#8]
  | .set5H => [0xCB#8, 0xEC#8]
  | .set5L => [0xCB#8, 0xED#8]
  | .set5MemHl => [0xCB#8, 0xEE#8]
  | .set5A => [0xCB#8, 0xEF#8]
  | .set6B => [0xCB#8, 0xF0#8]
  | .set6C => [0xCB#8, 0xF1#8]
  | .set6D => [0xCB#8, 0xF2#8]
  | .set6E => [0xCB#8, 0xF3#8]
  | .set6H => [0xCB#8, 0xF4#8]
  | .set6L => [0xCB#8, 0xF5#8]
  | .set6MemHl => [0xCB#8, 0xF6#8]
  | .set6A => [0xCB#8, 0xF7#8]
  | .set7B => [0xCB#8, 0xF8#8]
  | .set7C => [0xCB#8, 0xF9#8]
  | .set7D => [0xCB#8, 0xFA#8]
  | .set7E => [0xCB#8, 0xFB#8]
  | .set7H => [0xCB#8, 0xFC#8]
  | .set7L => [0xCB#8, 0xFD#8]
  | .set7MemHl => [0xCB#8, 0xFE#8]
  | .set7A => [0xCB#8, 0xFF#8]
  | .addIxBc => [0xDD#8, 0x09#8]
  | .addIxDe => [0xDD#8, 0x19#8]
  | .addIxIx => [0xDD#8, 0x29#8]
  | .addIxSp => [0xDD#8, 0x39#8]
  | .ldIxNn nn => [0xDD#8, 0x21#8, lo nn, hi nn]
  | .ldMemNnIx nn => [0xDD#8, 0x22#8, lo nn, hi nn]
  | .incIx => [0xDD#8, 0x23#8]
  | .ldIxMemNn nn => [0xDD#8, 0x2A#8, lo nn, hi nn]
  | .decIx => [0xDD#8, 0x2B#8]
  | .incMemIx d => [0xDD#8, 0x34#8, signedCode d]
  | .decMemIx d => [0xDD#8, 0x35#8, signedCode d]
  | .ldMemIxN d n => [0xDD#8, 0x36#8, signedCode d, n]
  | .ldBMemIx d => [0xDD#8, 0x46#8, signedCode d]
  | .ldCMemIx d => [0xDD#8, 0x4E#8, signedCode d]
  | .ldDMemIx d => [0xDD#8, 0x56#8, signedCode d]
  | .ldEMemIx d => [0xDD#8, 0x5E#8, signedCode d]
  | .ldHMemIx d => [0xDD#8, 0x66#8, signedCode d]
  | .ldLMemIx d => [0xDD#8, 0x6E#8, signedCode d]
  | .ldAMemIx d => [0xDD#8, 0x7E#8, signedCode d]
  | .ldMemIxB d => [0xDD#8, 0x70#8, signedCode d]
  | .ldMemIxC d => [0xDD#8, 0x71#8, signedCode d]
  | .ldMemIxD d => [0xDD#8, 0x72#8, signedCode d]
  | .ldMemIxE d => [0xDD#8, 0x73#8, signedCode d]
  | .ldMemIxH d => [0xDD#8, 0x74#8, signedCode d]
  | .ldMemIxL d => [0xDD#8, 0x75#8, signedCode d]
  | .ldMemIxA d => [0xDD#8, 0x77#8, signedCode d]
  | .addAMemIx d => [0xDD#8, 0x86#8, signedCode d]
  | .adcAMemIx d => [0xDD#8, 0x8E#8, signedCode d]
  | .subMemIx d => [0xDD#8, 0x96#8, signedCode d]
  | .sbcAMemIx d => [0xDD#8, 0x9E#8, signedCode d]
  | .andMemIx d => [0xDD#8, 0xA6#8, signedCode d]
  | .xorMemIx d => [0xDD#8, 0xAE#8, signedCode d]
  | .orMemIx d => [0xDD#8, 0xB6#8, signedCode d]
  | .cpMemIx d => [0xDD#8, 0xBE#8, signedCode d]
  | .popIx => [0xDD#8, 0xE1#8]
  | .exMemSpIx => [0xDD#8, 0xE3#8]
  | .pushIx => [0xDD#8, 0xE5#8]
  | .jpIx => [0xDD#8, 0xE9#8]
  | .ldSpIx => [0xDD#8, 0xF9#8]
  | .rlcMemIx d => [0xDD#8, 0xCB#8, signedCode d, 0x06#8]
  | .rrcMemIx d => [0xDD#8, 0xCB#8, signedCode d, 0x0E#8]
  | .rlMemIx d => [0xDD#8, 0xCB#8, signedCode d, 0x16#8]
  | .rrMemIx d => [0xDD#8, 0xCB#8, signedCode d, 0x1E#8]
  | .slaMemIx d => [0xDD#8, 0xCB#8, signedCode d, 0x26#8]
  | .sraMemIx d => [0xDD#8, 0xCB#8, signedCode d, 0x2E#8]
  | .srlMemIx d => [0xDD#8, 0xCB#8, signedCode d, 0x3E#8]
  | .bit0MemIx d => [0xDD#8, 0xCB#8, signedCode d, 0x46#8]
  | .bit1MemIx d => [0xDD#8, 0xCB#8, signedCode d, 0x4E#8]
  | .bit2MemIx d => [0xDD#8, 0xCB#8, signedCode d, 0x56#8]
  | .bit3MemIx d => [0xDD#8, 0xCB#8, signedCode d, 0x5E#8]
  | .bit4MemIx d => [0xDD#8, 0xCB#8, signedCode d, 0x66#8]
  | .bit5MemIx d => [0xDD#8, 0xCB#8, signedCode d, 0x6E#8]
  | .bit6MemIx d => [0xDD#8, 0xCB#8, signedCode d, 0x76#8]
  | .bit7MemIx d => [0xDD#8, 0xCB#8, signedCode d, 0x7E#8]
  | .res0MemIx d => [0xDD#8, 0xCB#8, signedCode d, 0x86#8]
  | .res1MemIx d => [0xDD#8, 0xCB#8, signedCode d, 0x8E#8]
  | .res2MemIx d => [0xDD#8, 0xCB#8, signedCode d, 0x96#8]
  | .res3MemIx d => [0xDD#8, 0xCB#8, signedCode d, 0x9E#8]
  | .res4MemIx d => [0xDD#8, 0xCB#8, signedCode d, 0xA6#8]
  | .res5MemIx d => [0xDD#8, 0xCB#8, signedCode d, 0xAE#8]
  | .res6MemIx d => [0xDD#8, 0xCB#8, signedCode d, 0xB6#8]
  | .res7MemIx d => [0xDD#8, 0xCB#8, signedCode d, 0xBE#8]
  | .set0MemIx d => [0xDD#8, 0xCB#8, signedCode d, 0xC6#8]
  | .set1MemIx d => [0xDD#8, 0xCB#8, signedCode d, 0xCE#8]
  | .set2MemIx d => [0xDD#8, 0xCB#8, signedCode d, 0xD6#8]
  | .set3MemIx d => [0xDD#8, 0xCB#8, signedCode d, 0xDE#8]
  | .set4MemIx d => [0xDD#8, 0xCB#8, signedCode d, 0xE6#8]
  | .set5MemIx d => [0xDD#8, 0xCB#8, signedCode d, 0xEE#8]
  | .set6MemIx d => [0xDD#8, 0xCB#8, signedCode d, 0xF6#8]
  | .set7MemIx d => [0xDD#8, 0xCB#8, signedCode d, 0xFE#8]
  | .addIyBc => [0xFD#8, 0x09#8]
  | .addIyDe => [0xFD#8, 0x19#8]
  | .addIyIy => [0xFD#8, 0x29#8]
  | .addIySp => [0xFD#8, 0x39#8]
  | .ldIyNn nn => [0xFD#8, 0x21#8, lo nn, hi nn]
  | .ldMemNnIy nn => [0xFD#8, 0x22#8, lo nn, hi nn]
  | .incIy => [0xFD#8, 0x23#8]
  | .ldIyMemNn nn => [0xFD#8, 0x2A#8, lo nn, hi nn]
  | .decIy => [0xFD#8, 0x2B#8]
  | .incMemIy d => [0xFD#8, 0x34#8, signedCode d]
  | .decMemIy d => [0xFD#8, 0x35#8, signedCode d]
  | .ldMemIyN d n => [0xFD#8, 0x36#8, signedCode d, n]
  | .ldBMemIy d => [0xFD#8, 0x46#8, signedCode d]
  | .ldCMemIy d => [0xFD#8, 0x4E#8, signedCode d]
  | .ldDMemIy d => [0xFD#8, 0x56#8, signedCode d]
  | .ldEMemIy d => [0xFD#8, 0x5E#8, signedCode d]
  | .ldHMemIy d => [0xFD#8, 0x66#8, signedCode d]
  | .ldLMemIy d => [0xFD#8, 0x6E#8, signedCode d]
  | .ldAMemIy d => [0xFD#8, 0x7E#8, signedCode d]
  | .ldMemIyB d => [0xFD#8, 0x70#8, signedCode d]
  | .ldMemIyC d => [0xFD#8, 0x71#8, signedCode d]
  | .ldMemIyD d => [0xFD#8, 0x72#8, signedCode d]
  | .ldMemIyE d => [0xFD#8, 0x73#8, signedCode d]
  | .ldMemIyH d => [0xFD#8, 0x74#8, signedCode d]
  | .ldMemIyL d => [0xFD#8, 0x75#8, signedCode d]
  | .ldMemIyA d => [0xFD#8, 0x77#8, signedCode d]
  | .addAMemIy d => [0xFD#8, 0x86#8, signedCode d]
  | .adcAMemIy d => [0xFD#8, 0x8E#8, signedCode d]
  | .subMemIy d => [0xFD#8, 0x96#8, signedCode d]
  | .sbcAMemIy d => [0xFD#8, 0x9E#8, signedCode d]
  | .andMemIy d => [0xFD#8, 0xA6#8, signedCode d]
  | .xorMemIy d => [0xFD#8, 0xAE#8, signedCode d]
  | .orMemIy d => [0xFD#8, 0xB6#8, signedCode d]
  | .cpMemIy d => [0xFD#8, 0xBE#8, signedCode d]
  | .popIy => [0xFD#8, 0xE1#8]
  | .exMemSpIy => [0xFD#8, 0xE3#8]
  | .pushIy => [0xFD#8, 0xE5#8]
  | .jpIy => [0xFD#8, 0xE9#8]
  | .ldSpIy => [0xFD#8, 0xF9#8]
  | .rlcMemIy d => [0xFD#8, 0xCB#8, signedCode d, 0x06#8]
  | .rrcMemIy d => [0xFD#8, 0xCB#8, signedCode d, 0x0E#8]
  | .rlMemIy d => [0xFD#8, 0xCB#8, signedCode d, 0x16#8]
  | .rrMemIy d => [0xFD#8, 0xCB#8, signedCode d, 0x1E#8]
  | .slaMemIy d => [0xFD#8, 0xCB#8, signedCode d, 0x26#8]
  | .sraMemIy d => [0xFD#8, 0xCB#8, signedCode d, 0x2E#8]
  | .srlMemIy d => [0xFD#8, 0xCB#8, signedCode d, 0x3E#8]
  | .bit0MemIy d => [0xFD#8, 0xCB#8, signedCode d, 0x46#8]
  | .bit1MemIy d => [0xFD#8, 0xCB#8, signedCode d, 0x4E#8]
  | .bit2MemIy d => [0xFD#8, 0xCB#8, signedCode d, 0x56#8]
  | .bit3MemIy d => [0xFD#8, 0xCB#8, signedCode d, 0x5E#8]
  | .bit4MemIy d => [0xFD#8, 0xCB#8, signedCode d, 0x66#8]
  | .bit5MemIy d => [0xFD#8, 0xCB#8, signedCode d, 0x6E#8]
  | .bit6MemIy d => [0xFD#8, 0xCB#8, signedCode d, 0x76#8]
  | .bit7MemIy d => [0xFD#8, 0xCB#8, signedCode d, 0x7E#8]
  | .res0MemIy d => [0xFD#8, 0xCB#8, signedCode d, 0x86#8]
  | .res1MemIy d => [0xFD#8, 0xCB#8, signedCode d, 0x8E#8]
  | .res2MemIy d => [0xFD#8, 0xCB#8, signedCode d, 0x96#8]
  | .res3MemIy d => [0xFD#8, 0xCB#8, signedCode d, 0x9E#8]
  | .res4MemIy d => [0xFD#8, 0xCB#8, signedCode d, 0xA6#8]
  | .res5MemIy d => [0xFD#8, 0xCB#8, signedCode d, 0xAE#8]
  | .res6MemIy d => [0xFD#8, 0xCB#8, signedCode d, 0xB6#8]
  | .res7MemIy d => [0xFD#8, 0xCB#8, signedCode d, 0xBE#8]
  | .set0MemIy d => [0xFD#8, 0xCB#8, signedCode d, 0xC6#8]
  | .set1MemIy d => [0xFD#8, 0xCB#8, signedCode d, 0xCE#8]
  | .set2MemIy d => [0xFD#8, 0xCB#8, signedCode d, 0xD6#8]
  | .set3MemIy d => [0xFD#8, 0xCB#8, signedCode d, 0xDE#8]
  | .set4MemIy d => [0xFD#8, 0xCB#8, signedCode d, 0xE6#8]
  | .set5MemIy d => [0xFD#8, 0xCB#8, signedCode d, 0xEE#8]
  | .set6MemIy d => [0xFD#8, 0xCB#8, signedCode d, 0xF6#8]
  | .set7MemIy d => [0xFD#8, 0xCB#8, signedCode d, 0xFE#8]
  | .inBPortC => [0xED#8, 0x40#8]
  | .outPortCB => [0xED#8, 0x41#8]
  | .inCPortC => [0xED#8, 0x48#8]
  | .outPortCC => [0xED#8, 0x49#8]
  | .inDPortC => [0xED#8, 0x50#8]
  | .outPortCD => [0xED#8, 0x51#8]
  | .inEPortC => [0xED#8, 0x58#8]
  | .outPortCE => [0xED#8, 0x59#8]
  | .inHPortC => [0xED#8, 0x60#8]
  | .outPortCH => [0xED#8, 0x61#8]
  | .inLPortC => [0xED#8, 0x68#8]
  | .outPortCL => [0xED#8, 0x69#8]
  | .inAPortC => [0xED#8, 0x78#8]
  | .outPortCA => [0xED#8, 0x79#8]
  | .sbcHlBc => [0xED#8, 0x42#8]
  | .adcHlBc => [0xED#8, 0x4A#8]
  | .ldMemNnBc nn => [0xED#8, 0x43#8, lo nn, hi nn]
  | .ldBcMemNn nn => [0xED#8, 0x4B#8, lo nn, hi nn]
  | .sbcHlDe => [0xED#8, 0x52#8]
  | .adcHlDe => [0xED#8, 0x5A#8]
  | .ldMemNnDe nn => [0xED#8, 0x53#8, lo nn, hi nn]
  | .ldDeMemNn nn => [0xED#8, 0x5B#8, lo nn, hi nn]
  | .sbcHlHl => [0xED#8, 0x62#8]
  | .adcHlHl => [0xED#8, 0x6A#8]
  | .ldMemNnHlEd nn => [0xED#8, 0x63#8, lo nn, hi nn]
  | .ldHlMemNnEd nn => [0xED#8, 0x6B#8, lo nn, hi nn]
  | .sbcHlSp => [0xED#8, 0x72#8]
  | .adcHlSp => [0xED#8, 0x7A#8]
  | .ldMemNnSp nn => [0xED#8, 0x73#8, lo nn, hi nn]
  | .ldSpMemNn nn => [0xED#8, 0x7B#8, lo nn, hi nn]
  | .neg => [0xED#8, 0x44#8]
  | .retn => [0xED#8, 0x45#8]
  | .im0 => [0xED#8, 0x46#8]
  | .ldIA => [0xED#8, 0x47#8]
  | .reti => [0xED#8, 0x4D#8]
  | .ldRA => [0xED#8, 0x4F#8]
  | .im1 => [0xED#8, 0x56#8]
  | .ldAI => [0xED#8, 0x57#8]
  | .im2 => [0xED#8, 0x5E#8]
  | .ldAR => [0xED#8, 0x5F#8]
  | .rrd => [0xED#8, 0x67#8]
  | .rld => [0xED#8, 0x6F#8]
  | .ldi => [0xED#8, 0xA0#8]
  | .cpi => [0xED#8, 0xA1#8]
  | .ini => [0xED#8, 0xA2#8]
  | .outi => [0xED#8, 0xA3#8]
  | .ldd => [0xED#8, 0xA8#8]
  | .cpd => [0xED#8, 0xA9#8]
  | .ind => [0xED#8, 0xAA#8]
  | .outd => [0xED#8, 0xAB#8]
  | .ldir => [0xED#8, 0xB0#8]
  | .cpir => [0xED#8, 0xB1#8]
  | .inir => [0xED#8, 0xB2#8]
  | .otir => [0xED#8, 0xB3#8]
  | .lddr => [0xED#8, 0xB8#8]
  | .cpdr => [0xED#8, 0xB9#8]
  | .indr => [0xED#8, 0xBA#8]
  | .otdr => [0xED#8, 0xBB#8]

end Sys2Proof
end

