-- ==== Sys2Proof/Config.lean ====
section
/-! DEFINITION. The free values of the model: the answers of the spec's `draw()`, about which nothing is
known. Each is an opaque constant applied to the plain counter `draws` of State, so that every draw of a run
is a fresh value and no proof can see what it is (log entries 2, 3, 4). -/

namespace Sys2Proof

/-- The n-th bit drawn: bits 5 and 3 of F after a flag-writing instruction (R37, D7), S and P/V after BIT
(R380, D8), every flag but Z after a block I/O step (R430, D9). -/
opaque Config.freeBit : Nat → Bool

/-- The n-th byte drawn: what a device region answers to a read (R79, D29), and what the debugger shows of an
unwritten register (R530). -/
opaque Config.freeByte : Nat → Byte

end Sys2Proof
end

