-- ==== Sys2Proof/Machine/State.lean ====
section
/-! DEFINITION. The state of one CPU instance, of the bus it reaches and of the host's interrupt inputs, as
plain data; the reasons a step can stop; and the state right after reset. -/

namespace Sys2Proof.Machine

/-- The eight bits of F, or one mark for each of them (R36: bit 7 S, 6 Z, 5 unnamed, 4 H, 3 unnamed, 2 P/V,
1 N, 0 C). They are kept apart because the spec keeps them apart: a rule writes, keeps or draws each bit by
itself (R37), and each bit carries its own `written` mark (R54). `Flags.toByte` and `Flags.ofByte` give the
byte. -/
structure Flags where
  s : Bool
  z : Bool
  b5 : Bool
  h : Bool
  b3 : Bool
  pv : Bool
  n : Bool
  c : Bool
  deriving DecidableEq, Repr

/-- The `written` marks of one register bank (R54): one for each 8-bit register and one for each bit of F. -/
structure BankMarks where
  a : Bool
  f : Flags
  b : Bool
  c : Bool
  d : Bool
  e : Bool
  h : Bool
  l : Bool
  deriving DecidableEq, Repr

/-- One bank of 8-bit registers with its marks: the main registers A, F, B, C, D, E, H, L (R32, R36) or the
shadow registers A', F', B', C', D', E', H', L' (R34). -/
structure Bank where
  a : Byte
  f : Flags
  b : Byte
  c : Byte
  d : Byte
  e : Byte
  h : Byte
  l : Byte
  written : BankMarks
  deriving DecidableEq, Repr

/-- The `written` marks of IX, IY and SP (R54). -/
structure WordMarks where
  ix : Bool
  iy : Bool
  sp : Bool
  deriving DecidableEq, Repr

/-- The interrupt mode IM, legal values 0, 1 and 2 only (R46). -/
inductive IntMode where
  | im0
  | im1
  | im2
  deriving DecidableEq, Repr

/-- What serves a bus region: storage (RAM or ROM), which holds bytes, or a device, whose answers are draws
(R79). -/
inductive RegionKind where
  | storage
  | device
  deriving DecidableEq, Repr

/-- A bus region (R71): the range [low, high), the two access flags, and the bit width and endianness flag,
which never change what the engine reads or writes (R77). -/
structure Region where
  low : Nat
  high : Nat
  readable : Bool
  writable : Bool
  width : Nat
  littleEndian : Bool
  kind : RegionKind
  deriving DecidableEq, Repr

/-- The bytes of the storage regions of one address space: address and byte, addresses strictly rising, no
entry equal to what an unlisted address reads as. -/
abbrev Memory := List Host.Cell

/-- The place of a byte access: its space and its address or port (R70, R502). -/
inductive Place where
  | mem (addr : Word)
  | io (port : Byte)
  deriving DecidableEq, Repr

/-- An access that a device region sees (R80). -/
inductive Access where
  | read (place : Place) (value : Byte)
  | write (place : Place) (value : Byte)
  deriving DecidableEq, Repr

/-- The two address spaces (R70): their region lists in registration order (R72), the bytes of their storage
regions, and the accesses the device regions have seen, newest first (R80; log entry 6). -/
structure Bus where
  memRegions : List Region
  ioRegions : List Region
  mem : Memory
  io : Memory
  log : List Access
  deriving DecidableEq, Repr

/-- The host's interrupt inputs (R510): the NMI edge not yet accepted, the INT level, the data byte a device
would place on the bus, and which of the two inputs the platform uses (`INT_SOURCES`). -/
structure IntLines where
  nmiPending : Bool
  intLine : Bool
  intData : Byte
  nmiSource : Bool
  intSource : Bool
  deriving DecidableEq, Repr

/-- The four kinds of bus error (R502). -/
inductive BusErrorKind where
  | unmapped
  | unsupportedWidth
  | notWritable
  | notReadable
  deriving DecidableEq, Repr

/-- A failure of an engine call or of an interrupt acceptance, with the value R507 records for it. -/
inductive Failure where
  | invalidOpcode (bytes : List Byte)
  | busError (kind : BusErrorKind) (place : Place)
  | unwrittenRegister (name : String)
  deriving DecidableEq, Repr

/-- What the `fault` mark holds (R51, R505): the failure and the address PC0 of the failing instruction. -/
structure FaultMark where
  failure : Failure
  pc0 : Word
  deriving DecidableEq, Repr

/-- The machine. `boundaryUsed` says that an interrupt has been accepted at this instruction boundary, so that the next
step is an engine call (R519; log entry 22). `draws` is the model's own field: how many free values the run has taken
(log entry 2). -/
structure State where
  main : Bank
  shadow : Bank
  ix : Word
  iy : Word
  sp : Word
  written : WordMarks
  pc : Word
  i : Byte
  r : Byte
  iff1 : Bool
  iff2 : Bool
  im : IntMode
  halted : Bool
  eiShadow : Bool
  fault : Option FaultMark
  lines : IntLines
  boundaryUsed : Bool
  bus : Bus
  draws : Nat
  deriving DecidableEq, Repr

/-- Why a step stops with a fault. -/
inductive Fault where
  /-- Raised by `fetch` on bytes that match no row of the opcode table (R501, R120), and by `acceptInterrupt`
  in mode 0 on a byte that is no RST (R514). Safe: the machine stops as the spec says. Carries the bytes, PC0
  and the bus as the accesses before the failure left it (R504). -/
  | invalidOpcode (bytes : List Byte) (pc0 : Word) (bus : Bus)
  /-- Raised by every fetch, memory access and port access that no region can serve (R502, R503, R504). Safe:
  the machine stops as the spec says. Carries the kind, the place of the failing byte access, PC0 and the bus
  as the accesses before the failing one left it (R504). -/
  | busError (kind : BusErrorKind) (place : Place) (pc0 : Word) (bus : Bus)
  /-- Raised by `step`, `engineCall` and `acceptInterrupt` in a state whose `fault` mark is set: such a state has
  no further step (R51, R505). Safe. -/
  | afterFailure (mark : FaultMark)
  /-- The spec's fault of the model (R509), raised by `Safety`'s `strictStep` alone, never by `step`: there a
  register that nothing has written holds its reset value (log entry 1). Safe. -/
  | unwrittenRegister (name : String) (pc0 : Word) (bus : Bus)
  deriving DecidableEq, Repr

/-- Why a step, or a launch, is refused. -/
inductive Refusal where
  /-- Raised by no arm of `exec`: every instruction of the opcode table has its meaning. Safe. -/
  | notModelled (mnemonic : String)
  /-- Raised by `Launch.boot` on a region list that is ill-formed configuration (R71): no run starts from it.
  Safe. -/
  | illFormedRegions
  deriving DecidableEq, Repr

/-- F with every bit (or every mark) clear. -/
def Flags.clear : Flags :=
  { s := false, z := false, b5 := false, h := false, b3 := false, pv := false, n := false, c := false }

/-- Nothing of a bank is written (R53, R54). -/
def BankMarks.none : BankMarks :=
  { a := false, f := Flags.clear, b := false, c := false, d := false, e := false, h := false, l := false }

/-- A bank right after reset: unwritten (R53), every register holding 0x00 (log entry 1). -/
def Bank.reset : Bank :=
  { a := 0, f := Flags.clear, b := 0, c := 0, d := 0, e := 0, h := 0, l := 0, written := BankMarks.none }

/-- The platform of the spec's own vectors (95_test_vectors.md, Conventions): one readable and writable storage
region over all of memory, one readable and writable device region over all ports (log entry 7). -/
def Bus.reset : Bus :=
  { memRegions := [{ low := 0, high := 65536, readable := true, writable := true, width := 8,
                     littleEndian := true, kind := .storage }]
    ioRegions := [{ low := 0, high := 256, readable := true, writable := true, width := 8,
                    littleEndian := true, kind := .device }]
    mem := []
    io := []
    log := [] }

/-- The host's inputs at launch: nothing pending, nothing asserted (R552); both inputs in `INT_SOURCES`, as in
95_test_vectors.md (log entry 7). The spec states no launch value of `intData`: 0x00 is the model's own (DESIGN CHOICE,
log entry 23). -/
def IntLines.reset : IntLines :=
  { nmiPending := false, intLine := false, intData := 0, nmiSource := true, intSource := true }

/-- The machine right after reset (R53, R550, R551, R552). No interrupt has been accepted at the launch boundary (log
entry 22). -/
def State.reset : State :=
  { main := Bank.reset, shadow := Bank.reset, ix := 0, iy := 0, sp := 0
    written := { ix := false, iy := false, sp := false }
    pc := 0, i := 0, r := 0, iff1 := false, iff2 := false, im := .im0
    halted := false, eiShadow := false, fault := none
    lines := IntLines.reset, boundaryUsed := false, bus := Bus.reset, draws := 0 }

end Sys2Proof.Machine
end

