-- ==== Sys2Proof/Machine/Ops.lean ====
section
/-! DEFINITION. The named operations over memory, ports, the stack and PC, and taking an interrupt. Every
instruction's meaning is built from these. -/

namespace Sys2Proof.Machine

/-- What an operation answers: a result, a fault or a refusal. -/
abbrev Out (α : Type) := Host.Outcome α Fault Refusal

/-- Do `x`, then `f` on the state it leaves; nothing after a failure is performed (R11). -/
def afterwards {α β : Type} (x : Out α) (f : α → Out β) : Out β :=
  match x with
  | .next a => f a
  | .fault r => .fault r
  | .refused r => .refused r

/-- Do the read `x`, then `f` on the value read and the state it leaves (R11). -/
def withValue {α β : Type} (x : Out (α × State)) (f : α → State → Out β) : Out β :=
  afterwards x (fun p => f p.1 p.2)

/-! ### Free values -/

/-- Draw one free byte. -/
def drawByte (s : State) : Byte × State :=
  (Config.freeByte s.draws, { s with draws := s.draws + 1 })

/-! ### Storage -/

/-- What a storage byte reads as that is not listed (log entry 5: DESIGN CHOICE 0x00, as the programs of
95_test_vectors.md section 3 have "every other byte 0x00"). -/
def Memory.initByte : Byte := 0

/-- The byte a storage region holds at `a`. -/
def Memory.read : Memory → Nat → Byte
  | [], _ => Memory.initByte
  | (k, v) :: rest, a => if k = a then v else Memory.read rest a

/-- Put a byte at `a`, keeping the canonical form: writing what an unlisted address reads as removes the entry. -/
def Memory.write : Memory → Nat → Byte → Memory
  | [], a, v => if v = Memory.initByte then [] else [(a, v)]
  | (k, w) :: rest, a, v =>
    if a < k then (if v = Memory.initByte then (k, w) :: rest else (a, v) :: (k, w) :: rest)
    else if a = k then (if v = Memory.initByte then rest else (a, v) :: rest)
    else (k, w) :: Memory.write rest a v

/-- Every listed address is at least `lo` and below `hi`, the addresses rise strictly, and no entry equals what
an unlisted address reads as. -/
def Memory.canonical (lo hi : Nat) : Memory → Bool
  | [] => true
  | (k, v) :: rest =>
    decide (lo ≤ k) && decide (k < hi) && decide (v ≠ Memory.initByte) && Memory.canonical (k + 1) hi rest

/-- The canonical form of the memory space, addresses 0x0000 to 0xFFFF (R70). -/
def Memory.wf (m : Memory) : Bool := Memory.canonical 0 65536 m

/-- The canonical form of the I/O space, ports 0x00 to 0xFF (R70). -/
def Memory.portWf (m : Memory) : Bool := Memory.canonical 0 256 m

/-! ### Regions -/

/-- The first region, in registration order, whose range contains the address (R72). -/
def resolve (regions : List Region) (a : Nat) : Option Region :=
  regions.find? (fun g => decide (g.low ≤ a) && decide (a < g.high))

/-- The region list of the space the place is in. -/
def Bus.regionsOf (b : Bus) : Place → List Region
  | .mem _ => b.memRegions
  | .io _ => b.ioRegions

/-- The address or port of the place, as a number. -/
def Place.number : Place → Nat
  | .mem a => a.toNat
  | .io p => p.toNat

/-- The region that serves the place (R72), if any. -/
def Bus.regionAt (b : Bus) (p : Place) : Option Region := resolve (b.regionsOf p) p.number

/-- The storage byte at the place. -/
def Bus.stored (b : Bus) : Place → Byte
  | .mem a => b.mem.read a.toNat
  | .io p => b.io.read p.toNat

/-- The bus with the storage byte at the place set. -/
def Bus.store (b : Bus) (p : Place) (v : Byte) : Bus :=
  match p with
  | .mem a => { b with mem := b.mem.write a.toNat v }
  | .io q => { b with io := b.io.write q.toNat v }

/-- The bus after a device region has seen one access. -/
def Bus.note (b : Bus) (x : Access) : Bus := { b with log := x :: b.log }

/-- Two regions share no address (R71). -/
def Region.apart (g h : Region) : Bool :=
  decide (g.high ≤ h.low) || decide (h.high ≤ g.low) || decide (g.high ≤ g.low) || decide (h.high ≤ h.low)

/-- The regions of one list are pairwise disjoint (R71). -/
def regionsDisjoint : List Region → Bool
  | [] => true
  | g :: rest => rest.all (fun h => g.apart h) && regionsDisjoint rest

/-! ### One byte access (R73, R74, R78) -/

/-- The failure of a byte access at `p`: it records PC0, which PC holds until the instruction's last write. -/
def busFault (k : BusErrorKind) (p : Place) (s : State) : Fault := .busError k p s.pc s.bus

/-- Read one byte: unmapped and not-readable failures; a storage region answers its byte, a device region a
draw, and sees the read (R73, R78, R79, R80). -/
def readPlace (p : Place) (s : State) : Out (Byte × State) :=
  match s.bus.regionAt p with
  | none => .fault (busFault .unmapped p s)
  | some g =>
    if g.readable then
      match g.kind with
      | .storage => .next (s.bus.stored p, s)
      | .device =>
        .next ((drawByte s).1, { (drawByte s).2 with bus := s.bus.note (.read p (drawByte s).1) })
    else .fault (busFault .notReadable p s)

/-- Write one byte: unmapped and not-writable failures; a storage region keeps the byte, a device region sees
the write (R74, R78, R80). -/
def writePlace (p : Place) (v : Byte) (s : State) : Out State :=
  match s.bus.regionAt p with
  | none => .fault (busFault .unmapped p s)
  | some g =>
    if g.writable then
      match g.kind with
      | .storage => .next { s with bus := s.bus.store p v }
      | .device => .next { s with bus := s.bus.note (.write p v) }
    else .fault (busFault .notWritable p s)

/-- `MemRead(addr, 1)` (R73). -/
def memRead (a : Word) (s : State) : Out (Byte × State) := readPlace (.mem a) s

/-- `MemWrite(addr, 1, v)` (R74). -/
def memWrite (a : Word) (v : Byte) (s : State) : Out State := writePlace (.mem a) v s

/-- `IoRead(port)` (R78). -/
def ioRead (p : Byte) (s : State) : Out (Byte × State) := readPlace (.io p) s

/-- `IoWrite(port, v)` (R78). -/
def ioWrite (p : Byte) (v : Byte) (s : State) : Out State := writePlace (.io p) v s

/-! ### 16-bit accesses and the stack -/

/-- `MemRead(addr, 2)`: the low byte first, then the high byte at addr + 1 modulo 2^16 (R75). -/
def memRead16 (a : Word) (s : State) : Out (Word × State) :=
  withValue (memRead a s) fun l s1 =>
    withValue (memRead (a + 1) s1) fun h s2 => .next (cat h l, s2)

/-- `MemWrite(addr, 2, v)`: the low byte first, then the high byte at addr + 1 modulo 2^16 (R76). -/
def memWrite16 (a : Word) (v : Word) (s : State) : Out State :=
  afterwards (memWrite a (lo v) s) fun s1 => memWrite (a + 1) (hi v) s1

/-- Write SP, which marks it written (R40, R54). -/
def State.setSp (v : Word) (s : State) : State :=
  { s with sp := v, written := { s.written with sp := true } }

/-- `Push16(v)` (R84). -/
def push16 (v : Word) (s : State) : Out State :=
  memWrite16 (s.sp - 2) v (s.setSp (s.sp - 2))

/-- `Pop16()` (R85). -/
def pop16 (s : State) : Out (Word × State) :=
  withValue (memRead16 s.sp s) fun v s1 => .next (v, s1.setSp (s1.sp + 2))

/-! ### PC and R -/

/-- `PC <- next` with `next = trunc16(PC0 + len)` (R12, R42, R43). -/
def State.advance (len : Nat) (s : State) : State := { s with pc := s.pc + BitVec.ofNat 16 len }

/-- `PC <- target` (R11). -/
def State.jump (target : Word) (s : State) : State := { s with pc := target }

/-- R after one M1 fetch or interrupt acceptance: bits 6..0 count modulo 128, bit 7 is kept (R47). -/
def refresh (r : Byte) : Byte := BitVec.ofNat 8 (128 * (r.toNat / 128) + (r.toNat % 128 + 1) % 128)

/-- One M1 increment of R (R47). -/
def State.tick (s : State) : State := { s with r := refresh s.r }

/-- `n` M1 increments of R. -/
def State.ticks : Nat → State → State
  | 0, s => s
  | n + 1, s => State.ticks n s.tick

/-! ### Taking an interrupt and returning from one -/

/-- What every acceptance does (R511): one M1 increment of R, the halted state and the EI shadow end, the boundary is
used (R519), PC is pushed, and PC goes where `target` says. `target` reads the state after the push (D21: mode 2 pushes, then
reads the vector). -/
def takeInterrupt (target : State → Out (Word × State)) (s : State) : Out State :=
  afterwards (push16 s.pc { s.tick with halted := false, eiShadow := false, boundaryUsed := true }) fun s1 =>
    withValue (target s1) fun v s2 => .next (s2.jump v)

/-- An NMI is accepted at this boundary (R513, R510), whatever IFF1, IFF2 and the EI shadow are; none is at a boundary
at which an interrupt has been accepted (R519). -/
def nmiDue (s : State) : Bool := s.lines.nmiPending && s.lines.nmiSource && !s.boundaryUsed

/-- A maskable interrupt is accepted at this boundary (R512, R519). -/
def intDue (s : State) : Bool :=
  s.lines.intLine && s.lines.intSource && s.iff1 && !s.eiShadow && !s.boundaryUsed && !nmiDue s

/-- Acceptance of a non-maskable interrupt (R513). -/
def acceptNmi (s : State) : Out State :=
  takeInterrupt (fun t => .next (0x0066#16, t))
    { s with lines := { s.lines with nmiPending := false }, iff1 := false }

/-- The opcode byte is one of the eight RST opcodes `11ppp111` (R414, R514). -/
def isRst (b : Byte) : Bool := b &&& 0xC7#8 == 0xC7#8

/-- Acceptance of a maskable interrupt in the mode IM (R512, R514, R515, R516). -/
def acceptInt (s : State) : Out State :=
  let s0 : State := { s with iff1 := false, iff2 := false }
  match s.im with
  | .im0 =>
    if isRst s.lines.intData then
      takeInterrupt (fun t => .next (BitVec.setWidth 16 (s.lines.intData &&& 0x38#8), t)) s0
    else .fault (.invalidOpcode [s.lines.intData] s.pc s.bus)
  | .im1 => takeInterrupt (fun t => .next (0x0038#16, t)) s0
  | .im2 => takeInterrupt (fun t => memRead16 (cat s.i s.lines.intData) t) s0

/-- `accept_interrupt()` (R511, R519): at most one acceptance at a boundary, the NMI before the INT, nothing if neither
is due, and no step from a faulted state. -/
def acceptInterrupt (s : State) : Out State :=
  match s.fault with
  | some m => .fault (.afterFailure m)
  | none => if nmiDue s then acceptNmi s else if intDue s then acceptInt s else .next s

/-- The return from an interrupt handler (R412, R413, R520): PC from the stack, then IFF1 <- IFF2. -/
def returnFromInterrupt (s : State) : Out State :=
  withValue (pop16 s) fun v s1 => .next { s1.jump v with iff1 := s1.iff2 }

end Sys2Proof.Machine
end

