-- ==== Sys2Proof/Machine/Operands.lean ====
section
/-! DEFINITION. The operand forms: the register codes and what they select (R104 to R108, R127), reading and
writing the registers they name, the effective address of an indexed operand (R112), and the condition codes
(R400). -/

namespace Sys2Proof.Machine

/-- The seven 8-bit registers the 3-bit code `r` selects (R104); code 110 is the memory operand and names none. -/
inductive Reg8 where
  | b
  | c
  | d
  | e
  | h
  | l
  | a
  deriving DecidableEq, Repr

/-- The register pairs of the 2-bit code `dd`, `ss` (R105). -/
inductive Pair where
  | bc
  | de
  | hl
  | sp
  deriving DecidableEq, Repr

/-- The register pairs of the 2-bit code `qq` of PUSH and POP (R106). -/
inductive StackPair where
  | bc
  | de
  | hl
  | af
  deriving DecidableEq, Repr

/-- The two index registers, selected by the prefix 0xDD or 0xFD (R35, R12). -/
inductive Index where
  | ix
  | iy
  deriving DecidableEq, Repr

/-- The register pairs of the 2-bit code `pp`, `rr` of ADD IX,pp and ADD IY,rr: code 10 is the index register
itself (R107). -/
inductive IndexPair where
  | bc
  | de
  | self
  | sp
  deriving DecidableEq, Repr

/-- The condition codes (R400). JR cc has the first four only (R108). -/
inductive Cond where
  | nz
  | z
  | nc
  | c
  | po
  | pe
  | p
  | m
  deriving DecidableEq, Repr

/-- The direction of a block instruction: +1 or −1. -/
inductive Dir where
  | up
  | down
  deriving DecidableEq, Repr

/-! ### Codes (R127: one shared table) -/

/-- R104. -/
def Reg8.code : Reg8 → Nat
  | .b => 0
  | .c => 1
  | .d => 2
  | .e => 3
  | .h => 4
  | .l => 5
  | .a => 7

/-- R105. -/
def Pair.code : Pair → Nat
  | .bc => 0
  | .de => 1
  | .hl => 2
  | .sp => 3

/-- R106. -/
def StackPair.code : StackPair → Nat
  | .bc => 0
  | .de => 1
  | .hl => 2
  | .af => 3

/-- R107. -/
def IndexPair.code : IndexPair → Nat
  | .bc => 0
  | .de => 1
  | .self => 2
  | .sp => 3

/-- R400, the 3-bit field; JR cc's 2-bit field has the same values for its four conditions. -/
def Cond.code : Cond → Nat
  | .nz => 0
  | .z => 1
  | .nc => 2
  | .c => 3
  | .po => 4
  | .pe => 5
  | .p => 6
  | .m => 7

/-- The index byte: 0xDD for IX, 0xFD for IY (R35). -/
def Index.byte : Index → Byte
  | .ix => 0xDD#8
  | .iy => 0xFD#8

/-! ### The flag byte (R36) -/

/-- The whole byte F: bit 7 S, 6 Z, 5 unnamed, 4 H, 3 unnamed, 2 P/V, 1 N, 0 C. -/
def Flags.toByte (f : Flags) : Byte :=
  BitVec.ofBool f.s ++ BitVec.ofBool f.z ++ BitVec.ofBool f.b5 ++ BitVec.ofBool f.h ++
    BitVec.ofBool f.b3 ++ BitVec.ofBool f.pv ++ BitVec.ofBool f.n ++ BitVec.ofBool f.c

/-- All eight bits of F from a byte, as POP AF and a debugger write set them (R37). -/
def Flags.ofByte (v : Byte) : Flags :=
  { s := v.getLsbD 7, z := v.getLsbD 6, b5 := v.getLsbD 5, h := v.getLsbD 4,
    b3 := v.getLsbD 3, pv := v.getLsbD 2, n := v.getLsbD 1, c := v.getLsbD 0 }

/-- Every mark of F set. -/
def Flags.all : Flags :=
  { s := true, z := true, b5 := true, h := true, b3 := true, pv := true, n := true, c := true }

/-! ### Reading and writing registers (R9, R33, R54) -/

/-- `reg8[code]` within a bank. -/
def Bank.get (k : Bank) : Reg8 → Byte
  | .b => k.b
  | .c => k.c
  | .d => k.d
  | .e => k.e
  | .h => k.h
  | .l => k.l
  | .a => k.a

/-- Write one 8-bit register of a bank and set its mark (R54). -/
def Bank.put (k : Bank) (r : Reg8) (v : Byte) : Bank :=
  match r with
  | .b => { k with b := v, written := { k.written with b := true } }
  | .c => { k with c := v, written := { k.written with c := true } }
  | .d => { k with d := v, written := { k.written with d := true } }
  | .e => { k with e := v, written := { k.written with e := true } }
  | .h => { k with h := v, written := { k.written with h := true } }
  | .l => { k with l := v, written := { k.written with l := true } }
  | .a => { k with a := v, written := { k.written with a := true } }

/-- The mark of one 8-bit register of a bank (R54). -/
def BankMarks.get (k : BankMarks) : Reg8 → Bool
  | .b => k.b
  | .c => k.c
  | .d => k.d
  | .e => k.e
  | .h => k.h
  | .l => k.l
  | .a => k.a

/-- Set all eight bits of a bank's F from a byte, and all their marks (R37, R54). -/
def Bank.putF (k : Bank) (v : Byte) : Bank :=
  { k with f := Flags.ofByte v, written := { k.written with f := Flags.all } }

/-- `reg8[code]` (R9). -/
def State.reg8 (s : State) (r : Reg8) : Byte := s.main.get r

/-- `reg8[code] <- v` (R9). -/
def State.setReg8 (r : Reg8) (v : Byte) (s : State) : State := { s with main := s.main.put r v }

/-- `F <- v`, the whole byte (R37). -/
def State.setFByte (v : Byte) (s : State) : State := { s with main := s.main.putF v }

/-- The pair BC (R33). -/
def State.bc (s : State) : Word := cat s.main.b s.main.c

/-- The pair DE (R33). -/
def State.de (s : State) : Word := cat s.main.d s.main.e

/-- The pair HL (R33). -/
def State.hl (s : State) : Word := cat s.main.h s.main.l

/-- The pair AF (R33). -/
def State.af (s : State) : Word := cat s.main.a s.main.f.toByte

/-- `BC <- v` (R33). -/
def State.setBc (v : Word) (s : State) : State := (s.setReg8 .b (hi v)).setReg8 .c (lo v)

/-- `DE <- v` (R33). -/
def State.setDe (v : Word) (s : State) : State := (s.setReg8 .d (hi v)).setReg8 .e (lo v)

/-- `HL <- v` (R33). -/
def State.setHl (v : Word) (s : State) : State := (s.setReg8 .h (hi v)).setReg8 .l (lo v)

/-- `AF <- v`: A and all eight bits of F (R33, R37). -/
def State.setAf (v : Word) (s : State) : State := (s.setReg8 .a (hi v)).setFByte (lo v)

/-- `reg16[code]` (R9, R105). -/
def State.pair (s : State) : Pair → Word
  | .bc => s.bc
  | .de => s.de
  | .hl => s.hl
  | .sp => s.sp

/-- `reg16[code] <- v` (R9, R105). -/
def State.setPair (p : Pair) (v : Word) (s : State) : State :=
  match p with
  | .bc => s.setBc v
  | .de => s.setDe v
  | .hl => s.setHl v
  | .sp => s.setSp v

/-- `reg16af[code]` (R9, R106). -/
def State.stackPair (s : State) : StackPair → Word
  | .bc => s.bc
  | .de => s.de
  | .hl => s.hl
  | .af => s.af

/-- `reg16af[code] <- v` (R9, R106). -/
def State.setStackPair (q : StackPair) (v : Word) (s : State) : State :=
  match q with
  | .bc => s.setBc v
  | .de => s.setDe v
  | .hl => s.setHl v
  | .af => s.setAf v

/-- The index register XY (R12, R35). -/
def State.index (s : State) : Index → Word
  | .ix => s.ix
  | .iy => s.iy

/-- `XY <- v` (R12, R35, R54). -/
def State.setIndex (x : Index) (v : Word) (s : State) : State :=
  match x with
  | .ix => { s with ix := v, written := { s.written with ix := true } }
  | .iy => { s with iy := v, written := { s.written with iy := true } }

/-- `reg16xy[code]` (R9, R107). -/
def State.indexPair (s : State) (x : Index) : IndexPair → Word
  | .bc => s.bc
  | .de => s.de
  | .self => s.index x
  | .sp => s.sp

/-! ### Addresses and conditions -/

/-- `ea = trunc16(XY + d)` (R112). -/
def State.ea (s : State) (x : Index) (d : Int) : Word := s.index x + BitVec.ofInt 16 d

/-- The target of a relative jump, `trunc16(PC0 + 2 + e)` (R113). -/
def State.relative (s : State) (e : Int) : Word := s.pc + 2 + BitVec.ofInt 16 e

/-- `cond(cc)` (R400). -/
def Flags.holds (f : Flags) : Cond → Bool
  | .nz => !f.z
  | .z => f.z
  | .nc => !f.c
  | .c => f.c
  | .po => !f.pv
  | .pe => f.pv
  | .p => !f.s
  | .m => f.s

/-- `cond(cc)` on the machine's F (R400). -/
def State.cond (s : State) (cc : Cond) : Bool := s.main.f.holds cc

/-- A 16-bit pointer stepped by a block instruction, modulo 2^16 (R205, R430, D5). -/
def Dir.step (d : Dir) (v : Word) : Word :=
  match d with
  | .up => v + 1
  | .down => v - 1

end Sys2Proof.Machine
end

