-- ==== Sys2Proof/Machine/Flags.lean ====
section
/-! DEFINITION. Every flag computation: `setF` (R233) and the functions that give a result with its flags
(R230 to R236, R300, R320, R321, R340, R341). Arithmetic is done in the integers and narrowed at the end (R8). -/

namespace Sys2Proof.Machine

/-- What a Flags line says of the six named flags: `some` a written value, `none` unchanged (R13). A flag kept is
neither read nor marked (R54). -/
structure FlagSet where
  s : Option Bool
  z : Option Bool
  h : Option Bool
  pv : Option Bool
  n : Option Bool
  c : Option Bool
  deriving DecidableEq, Repr

/-- The mark of a flag after `setF`: set if the flag was written, as before if it was kept (R54). -/
def markAfter (w : Option Bool) (m : Bool) : Bool := w.isSome || m

/-- F after `setF`, with the two draws for bits 5 and 3 (R233, R37). -/
def FlagSet.apply (u : FlagSet) (d5 d3 : Bool) (f : Flags) : Flags :=
  { s := u.s.getD f.s, z := u.z.getD f.z, b5 := d5, h := u.h.getD f.h,
    b3 := d3, pv := u.pv.getD f.pv, n := u.n.getD f.n, c := u.c.getD f.c }

/-- The marks of F after `setF` (R54). -/
def FlagSet.marks (u : FlagSet) (m : Flags) : Flags :=
  { s := markAfter u.s m.s, z := markAfter u.z m.z, b5 := true, h := markAfter u.h m.h,
    b3 := true, pv := markAfter u.pv m.pv, n := markAfter u.n m.n, c := markAfter u.c m.c }

/-- `setF` (R233): the six named flags, then bits 5 and 3 by two draws. -/
def State.setF (u : FlagSet) (s : State) : State :=
  { s with
    main := { s.main with
      f := u.apply (Config.freeBit s.draws) (Config.freeBit (s.draws + 1)) s.main.f
      written := { s.main.written with f := u.marks s.main.written.f } }
    draws := s.draws + 2 }

/-- `parity(v)`: 1 when the byte has an even number of 1 bits (R8). -/
def parity (v : Byte) : Bool :=
  !(v.getLsbD 0 ^^ v.getLsbD 1 ^^ v.getLsbD 2 ^^ v.getLsbD 3 ^^
    v.getLsbD 4 ^^ v.getLsbD 5 ^^ v.getLsbD 6 ^^ v.getLsbD 7)

/-- A result byte and what its Flags line writes. -/
structure ByteResult where
  res : Byte
  flags : FlagSet
  deriving DecidableEq, Repr

/-- A 16-bit result and what its Flags line writes. -/
structure WordResult where
  res : Word
  flags : FlagSet
  deriving DecidableEq, Repr

/-! ### 8-bit arithmetic and logic -/

/-- `add8(a, s, c)` (R230). -/
def add8 (a s : Byte) (c : Bool) : ByteResult :=
  let t := a.toNat + s.toNat + c.toNat
  let v := a.toInt + s.toInt + c.toNat
  let res := BitVec.ofNat 8 t
  { res := res
    flags :=
      { s := some (res.getLsbD 7), z := some (decide (res = 0)),
        h := some (decide (a.toNat % 16 + s.toNat % 16 + c.toNat > 15)),
        pv := some (decide (v < -128 ∨ v > 127)), n := some false, c := some (decide (t > 255)) } }

/-- `sub8(a, s, c)` (R231). -/
def sub8 (a s : Byte) (c : Bool) : ByteResult :=
  let t : Int := (a.toNat : Int) - s.toNat - c.toNat
  let v := a.toInt - s.toInt - c.toNat
  let res := BitVec.ofInt 8 t
  { res := res
    flags :=
      { s := some (res.getLsbD 7), z := some (decide (res = 0)),
        h := some (decide (a.toNat % 16 < s.toNat % 16 + c.toNat)),
        pv := some (decide (v < -128 ∨ v > 127)), n := some true, c := some (decide (t < 0)) } }

/-- The flags of a logic operation with result `res`: H as given, P/V parity, N and C clear (R232). -/
def logicFlags (res : Byte) (h : Bool) : FlagSet :=
  { s := some (res.getLsbD 7), z := some (decide (res = 0)), h := some h,
    pv := some (parity res), n := some false, c := some false }

/-- `logic8(AND, a, s)` (R232). -/
def and8 (a s : Byte) : ByteResult := { res := a &&& s, flags := logicFlags (a &&& s) true }

/-- `logic8(XOR, a, s)` (R232). -/
def xor8 (a s : Byte) : ByteResult := { res := a ^^^ s, flags := logicFlags (a ^^^ s) false }

/-- `logic8(OR, a, s)` (R232). -/
def or8 (a s : Byte) : ByteResult := { res := a ||| s, flags := logicFlags (a ||| s) false }

/-- `inc8(v)`: C is not part of the result (R235). -/
def inc8 (v : Byte) : ByteResult :=
  let res := BitVec.ofNat 8 (v.toNat + 1)
  { res := res
    flags :=
      { s := some (res.getLsbD 7), z := some (decide (res = 0)), h := some (decide (v.toNat % 16 = 15)),
        pv := some (decide (v = 0x7F#8)), n := some false, c := none } }

/-- `dec8(v)`: C is not part of the result (R236). -/
def dec8 (v : Byte) : ByteResult :=
  let res := BitVec.ofInt 8 ((v.toNat : Int) - 1)
  { res := res
    flags :=
      { s := some (res.getLsbD 7), z := some (decide (res = 0)), h := some (decide (v.toNat % 16 = 0)),
        pv := some (decide (v = 0x80#8)), n := some true, c := none } }

/-- The eight operations of the 3-bit field aaa (R234). -/
inductive AluOp where
  | add
  | adc
  | sub
  | sbc
  | and
  | xor
  | or
  | cp
  deriving DecidableEq, Repr

/-- The code aaa (R234). -/
def AluOp.code : AluOp → Nat
  | .add => 0
  | .adc => 1
  | .sub => 2
  | .sbc => 3
  | .and => 4
  | .xor => 5
  | .or => 6
  | .cp => 7

/-- The result and flags of an operation on A, the source operand and the carry flag (R230 to R234). CP computes
as SUB and leaves A alone. -/
def AluOp.compute (op : AluOp) (a s : Byte) (carry : Bool) : ByteResult :=
  match op with
  | .add => add8 a s false
  | .adc => add8 a s carry
  | .sub => sub8 a s false
  | .sbc => sub8 a s carry
  | .and => and8 a s
  | .xor => xor8 a s
  | .or => or8 a s
  | .cp => sub8 a s false

/-! ### Decimal adjust -/

/-- DAA (R300, D33), on every value of A, H, N and C. N is unchanged. -/
def daa8 (a : Byte) (hf nf cf : Bool) : ByteResult :=
  let low := a.toNat % 16
  let t1 : Nat := if hf || decide (low > 9) then 0x06 else 0
  let high := cf || decide (a.toNat > 0x99)
  let t : Nat := if high then t1 + 0x60 else t1
  let res := if nf then BitVec.ofInt 8 ((a.toNat : Int) - t) else BitVec.ofNat 8 (a.toNat + t)
  let h := if nf then hf && decide (low < 6) else decide (low > 9)
  { res := res
    flags :=
      { s := some (res.getLsbD 7), z := some (decide (res = 0)), h := some h,
        pv := some (parity res), n := none, c := some high } }

/-! ### 16-bit arithmetic -/

/-- `add16(a, s)`: S, Z and P/V are no part of the result (R320). -/
def add16 (a s : Word) : WordResult :=
  let t := a.toNat + s.toNat
  { res := BitVec.ofNat 16 t
    flags :=
      { s := none, z := none, h := some (decide (a.toNat % 4096 + s.toNat % 4096 > 0xFFF)),
        pv := none, n := some false, c := some (decide (t > 0xFFFF)) } }

/-- `adc16(a, s, c)` (R321). -/
def adc16 (a s : Word) (c : Bool) : WordResult :=
  let t := a.toNat + s.toNat + c.toNat
  let v := a.toInt + s.toInt + c.toNat
  let res := BitVec.ofNat 16 t
  { res := res
    flags :=
      { s := some (res.getLsbD 15), z := some (decide (res = 0)),
        h := some (decide (a.toNat % 4096 + s.toNat % 4096 + c.toNat > 0xFFF)),
        pv := some (decide (v < -32768 ∨ v > 32767)), n := some false, c := some (decide (t > 0xFFFF)) } }

/-- `sbc16(a, s, c)` (R321). -/
def sbc16 (a s : Word) (c : Bool) : WordResult :=
  let t : Int := (a.toNat : Int) - s.toNat - c.toNat
  let v := a.toInt - s.toInt - c.toNat
  let res := BitVec.ofInt 16 t
  { res := res
    flags :=
      { s := some (res.getLsbD 15), z := some (decide (res = 0)),
        h := some (decide (a.toNat % 4096 < s.toNat % 4096 + c.toNat)),
        pv := some (decide (v < -32768 ∨ v > 32767)), n := some true, c := some (decide (t < 0)) } }

/-! ### Rotates and shifts -/

/-- The seven operations of the 3-bit field ooo (R340). -/
inductive ShiftOp where
  | rlc
  | rrc
  | rl
  | rr
  | sla
  | sra
  | srl
  deriving DecidableEq, Repr

/-- The code ooo (R115, R340); 110 is not admitted. -/
def ShiftOp.code : ShiftOp → Nat
  | .rlc => 0
  | .rrc => 1
  | .rl => 2
  | .rr => 3
  | .sla => 4
  | .sra => 5
  | .srl => 7

/-- The result byte and the carry-out of `shift(op, v, c)` (R340). -/
def ShiftOp.shift (op : ShiftOp) (v : Byte) (c : Bool) : Byte × Bool :=
  match op with
  | .rlc => (BitVec.ofNat 8 (2 * v.toNat % 256 + (v.getLsbD 7).toNat), v.getLsbD 7)
  | .rrc => (BitVec.ofNat 8 (v.toNat / 2 + 128 * (v.getLsbD 0).toNat), v.getLsbD 0)
  | .rl => (BitVec.ofNat 8 (2 * v.toNat % 256 + c.toNat), v.getLsbD 7)
  | .rr => (BitVec.ofNat 8 (v.toNat / 2 + 128 * c.toNat), v.getLsbD 0)
  | .sla => (BitVec.ofNat 8 (2 * v.toNat % 256), v.getLsbD 7)
  | .sra => (BitVec.ofNat 8 (v.toNat / 2 + 128 * (v.getLsbD 7).toNat), v.getLsbD 0)
  | .srl => (BitVec.ofNat 8 (v.toNat / 2), v.getLsbD 0)

/-- The flags of the CB-table rotates and shifts: S, Z and P/V from the result, H and N clear, C as given (R341).
IN r,(C), RLD and RRD write S, Z, H, P/V and N the same way (R432, R367). -/
def resultFlags (res : Byte) (c : Option Bool) : FlagSet :=
  { s := some (res.getLsbD 7), z := some (decide (res = 0)), h := some false,
    pv := some (parity res), n := some false, c := c }

/-- A CB-table rotate or shift with its flags (R340, R341). -/
def ShiftOp.compute (op : ShiftOp) (v : Byte) (c : Bool) : ByteResult :=
  { res := (op.shift v c).1, flags := resultFlags (op.shift v c).1 (some (op.shift v c).2) }

/-- The flags of the accumulator rotates: S, Z and P/V unchanged, H and N clear, C the bit shifted out (R341). -/
def accumulatorFlags (c : Bool) : FlagSet :=
  { s := none, z := none, h := some false, pv := none, n := some false, c := some c }

end Sys2Proof.Machine
end

