-- ==== Sys2Proof/Machine/Alu16.lean ====
section
/-! DEFINITION. The 16-bit arithmetic group (45_alu16.md, R322 to R329): its shared operations, then one meaning for
each row of the opcode table. -/

namespace Sys2Proof.Machine

/-- `HL <- res`, the flags, `PC <- next` (R322 to R324). -/
def putHl (x : WordResult) (len : Nat) (s : State) : Out State :=
  .next (((s.setHl x.res).setF x.flags).advance len)

/-- `XY <- res`, the flags, `PC <- next` (R325). -/
def putIndex (x : Index) (w : WordResult) (s : State) : Out State :=
  .next (((s.setIndex x w.res).setF w.flags).advance 2)

/-! ### The instructions -/

/-- `INC BC` (R326). -/
def execIncBc (s : State) : Out State := .next ((s.setPair .bc (s.pair .bc + 1)).advance 1)

/-- `ADD HL,BC` (R322). -/
def execAddHlBc (s : State) : Out State := putHl (add16 s.hl (s.pair .bc)) 1 s

/-- `DEC BC` (R328). -/
def execDecBc (s : State) : Out State := .next ((s.setPair .bc (s.pair .bc - 1)).advance 1)

/-- `INC DE` (R326). -/
def execIncDe (s : State) : Out State := .next ((s.setPair .de (s.pair .de + 1)).advance 1)

/-- `ADD HL,DE` (R322). -/
def execAddHlDe (s : State) : Out State := putHl (add16 s.hl (s.pair .de)) 1 s

/-- `DEC DE` (R328). -/
def execDecDe (s : State) : Out State := .next ((s.setPair .de (s.pair .de - 1)).advance 1)

/-- `INC HL` (R326). -/
def execIncHl (s : State) : Out State := .next ((s.setPair .hl (s.pair .hl + 1)).advance 1)

/-- `ADD HL,HL` (R322). -/
def execAddHlHl (s : State) : Out State := putHl (add16 s.hl (s.pair .hl)) 1 s

/-- `DEC HL` (R328). -/
def execDecHl (s : State) : Out State := .next ((s.setPair .hl (s.pair .hl - 1)).advance 1)

/-- `INC SP` (R326). -/
def execIncSp (s : State) : Out State := .next ((s.setPair .sp (s.pair .sp + 1)).advance 1)

/-- `ADD HL,SP` (R322). -/
def execAddHlSp (s : State) : Out State := putHl (add16 s.hl (s.pair .sp)) 1 s

/-- `DEC SP` (R328). -/
def execDecSp (s : State) : Out State := .next ((s.setPair .sp (s.pair .sp - 1)).advance 1)

/-- `ADD IX,BC` (R325). -/
def execAddIxBc (s : State) : Out State := putIndex .ix (add16 (s.index .ix) (s.indexPair .ix .bc)) s

/-- `ADD IX,DE` (R325). -/
def execAddIxDe (s : State) : Out State := putIndex .ix (add16 (s.index .ix) (s.indexPair .ix .de)) s

/-- `ADD IX,IX` (R325). -/
def execAddIxIx (s : State) : Out State := putIndex .ix (add16 (s.index .ix) (s.indexPair .ix .self)) s

/-- `ADD IX,SP` (R325). -/
def execAddIxSp (s : State) : Out State := putIndex .ix (add16 (s.index .ix) (s.indexPair .ix .sp)) s

/-- `INC IX` (R327). -/
def execIncIx (s : State) : Out State := .next ((s.setIndex .ix (s.index .ix + 1)).advance 2)

/-- `DEC IX` (R329). -/
def execDecIx (s : State) : Out State := .next ((s.setIndex .ix (s.index .ix - 1)).advance 2)

/-- `ADD IY,BC` (R325). -/
def execAddIyBc (s : State) : Out State := putIndex .iy (add16 (s.index .iy) (s.indexPair .iy .bc)) s

/-- `ADD IY,DE` (R325). -/
def execAddIyDe (s : State) : Out State := putIndex .iy (add16 (s.index .iy) (s.indexPair .iy .de)) s

/-- `ADD IY,IY` (R325). -/
def execAddIyIy (s : State) : Out State := putIndex .iy (add16 (s.index .iy) (s.indexPair .iy .self)) s

/-- `ADD IY,SP` (R325). -/
def execAddIySp (s : State) : Out State := putIndex .iy (add16 (s.index .iy) (s.indexPair .iy .sp)) s

/-- `INC IY` (R327). -/
def execIncIy (s : State) : Out State := .next ((s.setIndex .iy (s.index .iy + 1)).advance 2)

/-- `DEC IY` (R329). -/
def execDecIy (s : State) : Out State := .next ((s.setIndex .iy (s.index .iy - 1)).advance 2)

/-- `SBC HL,BC` (R324). -/
def execSbcHlBc (s : State) : Out State := putHl (sbc16 s.hl (s.pair .bc) s.main.f.c) 2 s

/-- `ADC HL,BC` (R323). -/
def execAdcHlBc (s : State) : Out State := putHl (adc16 s.hl (s.pair .bc) s.main.f.c) 2 s

/-- `SBC HL,DE` (R324). -/
def execSbcHlDe (s : State) : Out State := putHl (sbc16 s.hl (s.pair .de) s.main.f.c) 2 s

/-- `ADC HL,DE` (R323). -/
def execAdcHlDe (s : State) : Out State := putHl (adc16 s.hl (s.pair .de) s.main.f.c) 2 s

/-- `SBC HL,HL` (R324). -/
def execSbcHlHl (s : State) : Out State := putHl (sbc16 s.hl (s.pair .hl) s.main.f.c) 2 s

/-- `ADC HL,HL` (R323). -/
def execAdcHlHl (s : State) : Out State := putHl (adc16 s.hl (s.pair .hl) s.main.f.c) 2 s

/-- `SBC HL,SP` (R324). -/
def execSbcHlSp (s : State) : Out State := putHl (sbc16 s.hl (s.pair .sp) s.main.f.c) 2 s

/-- `ADC HL,SP` (R323). -/
def execAdcHlSp (s : State) : Out State := putHl (adc16 s.hl (s.pair .sp) s.main.f.c) 2 s
end Sys2Proof.Machine
end

