-- ==== Sys2Proof/Machine/Modify.lean ====
section
/-! DEFINITION. The two shared shapes of an instruction that computes a new byte with flags from an old one: in a
register, and in memory (INC, DEC, and the CB-table rotates and shifts; R272 to R277, R346 to R366). -/

namespace Sys2Proof.Machine

/-- `reg8[r] <- res`, the flags, `PC <- next`. -/
def updateReg (g : Byte → ByteResult) (r : Reg8) (len : Nat) (s : State) : Out State :=
  .next (((s.setReg8 r (g (s.reg8 r)).res).setF (g (s.reg8 r)).flags).advance len)

/-- `v <- MemRead(a, 1); MemWrite(a, 1, res)`, the flags, `PC <- next`: the read before the write (R86). -/
def updateByte (g : Byte → ByteResult) (a : Word) (len : Nat) (s : State) : Out State :=
  withValue (memRead a s) fun v s1 =>
    afterwards (memWrite a (g v).res s1) fun s2 => .next ((s2.setF (g v).flags).advance len)

end Sys2Proof.Machine
end

