-- ==== Sys2Proof/Machine/Alu8.lean ====
section
/-! DEFINITION. The 8-bit arithmetic and logic group (43_alu8.md, R234, R240 to R277): its shared operations, then
one meaning for each row of the opcode table. -/

namespace Sys2Proof.Machine

/-- The write to A of an operation of the eight: CP writes none (R234). -/
def AluOp.writeBack (op : AluOp) (res : Byte) (s : State) : State :=
  match op with
  | .cp => s
  | .add => s.setReg8 .a res
  | .adc => s.setReg8 .a res
  | .sub => s.setReg8 .a res
  | .sbc => s.setReg8 .a res
  | .and => s.setReg8 .a res
  | .xor => s.setReg8 .a res
  | .or => s.setReg8 .a res

/-- One of the eight operations on A and the source operand `v` (R234, R240 to R271). -/
def alu (op : AluOp) (v : Byte) (len : Nat) (s : State) : Out State :=
  .next (((op.writeBack (op.compute s.main.a v s.main.f.c).res s).setF
    (op.compute s.main.a v s.main.f.c).flags).advance len)

/-- One of the eight operations on A and the byte at `a` (R234). -/
def aluMem (op : AluOp) (a : Word) (len : Nat) (s : State) : Out State :=
  withValue (memRead a s) fun v s1 => alu op v len s1

/-! ### The instructions -/

/-- `INC B` (R272). -/
def execIncB (s : State) : Out State := updateReg inc8 .b 1 s

/-- `DEC B` (R275). -/
def execDecB (s : State) : Out State := updateReg dec8 .b 1 s

/-- `INC C` (R272). -/
def execIncC (s : State) : Out State := updateReg inc8 .c 1 s

/-- `DEC C` (R275). -/
def execDecC (s : State) : Out State := updateReg dec8 .c 1 s

/-- `INC D` (R272). -/
def execIncD (s : State) : Out State := updateReg inc8 .d 1 s

/-- `DEC D` (R275). -/
def execDecD (s : State) : Out State := updateReg dec8 .d 1 s

/-- `INC E` (R272). -/
def execIncE (s : State) : Out State := updateReg inc8 .e 1 s

/-- `DEC E` (R275). -/
def execDecE (s : State) : Out State := updateReg dec8 .e 1 s

/-- `INC H` (R272). -/
def execIncH (s : State) : Out State := updateReg inc8 .h 1 s

/-- `DEC H` (R275). -/
def execDecH (s : State) : Out State := updateReg dec8 .h 1 s

/-- `INC L` (R272). -/
def execIncL (s : State) : Out State := updateReg inc8 .l 1 s

/-- `DEC L` (R275). -/
def execDecL (s : State) : Out State := updateReg dec8 .l 1 s

/-- `INC (HL)` (R273). -/
def execIncMemHl (s : State) : Out State := updateByte inc8 s.hl 1 s

/-- `DEC (HL)` (R276). -/
def execDecMemHl (s : State) : Out State := updateByte dec8 s.hl 1 s

/-- `INC A` (R272). -/
def execIncA (s : State) : Out State := updateReg inc8 .a 1 s

/-- `DEC A` (R275). -/
def execDecA (s : State) : Out State := updateReg dec8 .a 1 s

/-- `ADD A,B` (R240). -/
def execAddAB (s : State) : Out State := alu .add (s.reg8 .b) 1 s

/-- `ADD A,C` (R240). -/
def execAddAC (s : State) : Out State := alu .add (s.reg8 .c) 1 s

/-- `ADD A,D` (R240). -/
def execAddAD (s : State) : Out State := alu .add (s.reg8 .d) 1 s

/-- `ADD A,E` (R240). -/
def execAddAE (s : State) : Out State := alu .add (s.reg8 .e) 1 s

/-- `ADD A,H` (R240). -/
def execAddAH (s : State) : Out State := alu .add (s.reg8 .h) 1 s

/-- `ADD A,L` (R240). -/
def execAddAL (s : State) : Out State := alu .add (s.reg8 .l) 1 s

/-- `ADD A,(HL)` (R242). -/
def execAddAMemHl (s : State) : Out State := aluMem .add s.hl 1 s

/-- `ADD A,A` (R240). -/
def execAddAA (s : State) : Out State := alu .add (s.reg8 .a) 1 s

/-- `ADC A,B` (R244). -/
def execAdcAB (s : State) : Out State := alu .adc (s.reg8 .b) 1 s

/-- `ADC A,C` (R244). -/
def execAdcAC (s : State) : Out State := alu .adc (s.reg8 .c) 1 s

/-- `ADC A,D` (R244). -/
def execAdcAD (s : State) : Out State := alu .adc (s.reg8 .d) 1 s

/-- `ADC A,E` (R244). -/
def execAdcAE (s : State) : Out State := alu .adc (s.reg8 .e) 1 s

/-- `ADC A,H` (R244). -/
def execAdcAH (s : State) : Out State := alu .adc (s.reg8 .h) 1 s

/-- `ADC A,L` (R244). -/
def execAdcAL (s : State) : Out State := alu .adc (s.reg8 .l) 1 s

/-- `ADC A,(HL)` (R246). -/
def execAdcAMemHl (s : State) : Out State := aluMem .adc s.hl 1 s

/-- `ADC A,A` (R244). -/
def execAdcAA (s : State) : Out State := alu .adc (s.reg8 .a) 1 s

/-- `SUB B` (R248). -/
def execSubB (s : State) : Out State := alu .sub (s.reg8 .b) 1 s

/-- `SUB C` (R248). -/
def execSubC (s : State) : Out State := alu .sub (s.reg8 .c) 1 s

/-- `SUB D` (R248). -/
def execSubD (s : State) : Out State := alu .sub (s.reg8 .d) 1 s

/-- `SUB E` (R248). -/
def execSubE (s : State) : Out State := alu .sub (s.reg8 .e) 1 s

/-- `SUB H` (R248). -/
def execSubH (s : State) : Out State := alu .sub (s.reg8 .h) 1 s

/-- `SUB L` (R248). -/
def execSubL (s : State) : Out State := alu .sub (s.reg8 .l) 1 s

/-- `SUB (HL)` (R250). -/
def execSubMemHl (s : State) : Out State := aluMem .sub s.hl 1 s

/-- `SUB A` (R248). -/
def execSubA (s : State) : Out State := alu .sub (s.reg8 .a) 1 s

/-- `SBC A,B` (R252). -/
def execSbcAB (s : State) : Out State := alu .sbc (s.reg8 .b) 1 s

/-- `SBC A,C` (R252). -/
def execSbcAC (s : State) : Out State := alu .sbc (s.reg8 .c) 1 s

/-- `SBC A,D` (R252). -/
def execSbcAD (s : State) : Out State := alu .sbc (s.reg8 .d) 1 s

/-- `SBC A,E` (R252). -/
def execSbcAE (s : State) : Out State := alu .sbc (s.reg8 .e) 1 s

/-- `SBC A,H` (R252). -/
def execSbcAH (s : State) : Out State := alu .sbc (s.reg8 .h) 1 s

/-- `SBC A,L` (R252). -/
def execSbcAL (s : State) : Out State := alu .sbc (s.reg8 .l) 1 s

/-- `SBC A,(HL)` (R254). -/
def execSbcAMemHl (s : State) : Out State := aluMem .sbc s.hl 1 s

/-- `SBC A,A` (R252). -/
def execSbcAA (s : State) : Out State := alu .sbc (s.reg8 .a) 1 s

/-- `AND B` (R256). -/
def execAndB (s : State) : Out State := alu .and (s.reg8 .b) 1 s

/-- `AND C` (R256). -/
def execAndC (s : State) : Out State := alu .and (s.reg8 .c) 1 s

/-- `AND D` (R256). -/
def execAndD (s : State) : Out State := alu .and (s.reg8 .d) 1 s

/-- `AND E` (R256). -/
def execAndE (s : State) : Out State := alu .and (s.reg8 .e) 1 s

/-- `AND H` (R256). -/
def execAndH (s : State) : Out State := alu .and (s.reg8 .h) 1 s

/-- `AND L` (R256). -/
def execAndL (s : State) : Out State := alu .and (s.reg8 .l) 1 s

/-- `AND (HL)` (R258). -/
def execAndMemHl (s : State) : Out State := aluMem .and s.hl 1 s

/-- `AND A` (R256). -/
def execAndA (s : State) : Out State := alu .and (s.reg8 .a) 1 s

/-- `XOR B` (R260). -/
def execXorB (s : State) : Out State := alu .xor (s.reg8 .b) 1 s

/-- `XOR C` (R260). -/
def execXorC (s : State) : Out State := alu .xor (s.reg8 .c) 1 s

/-- `XOR D` (R260). -/
def execXorD (s : State) : Out State := alu .xor (s.reg8 .d) 1 s

/-- `XOR E` (R260). -/
def execXorE (s : State) : Out State := alu .xor (s.reg8 .e) 1 s

/-- `XOR H` (R260). -/
def execXorH (s : State) : Out State := alu .xor (s.reg8 .h) 1 s

/-- `XOR L` (R260). -/
def execXorL (s : State) : Out State := alu .xor (s.reg8 .l) 1 s

/-- `XOR (HL)` (R262). -/
def execXorMemHl (s : State) : Out State := aluMem .xor s.hl 1 s

/-- `XOR A` (R260). -/
def execXorA (s : State) : Out State := alu .xor (s.reg8 .a) 1 s

/-- `OR B` (R264). -/
def execOrB (s : State) : Out State := alu .or (s.reg8 .b) 1 s

/-- `OR C` (R264). -/
def execOrC (s : State) : Out State := alu .or (s.reg8 .c) 1 s

/-- `OR D` (R264). -/
def execOrD (s : State) : Out State := alu .or (s.reg8 .d) 1 s

/-- `OR E` (R264). -/
def execOrE (s : State) : Out State := alu .or (s.reg8 .e) 1 s

/-- `OR H` (R264). -/
def execOrH (s : State) : Out State := alu .or (s.reg8 .h) 1 s

/-- `OR L` (R264). -/
def execOrL (s : State) : Out State := alu .or (s.reg8 .l) 1 s

/-- `OR (HL)` (R266). -/
def execOrMemHl (s : State) : Out State := aluMem .or s.hl 1 s

/-- `OR A` (R264). -/
def execOrA (s : State) : Out State := alu .or (s.reg8 .a) 1 s

/-- `CP B` (R268). -/
def execCpB (s : State) : Out State := alu .cp (s.reg8 .b) 1 s

/-- `CP C` (R268). -/
def execCpC (s : State) : Out State := alu .cp (s.reg8 .c) 1 s

/-- `CP D` (R268). -/
def execCpD (s : State) : Out State := alu .cp (s.reg8 .d) 1 s

/-- `CP E` (R268). -/
def execCpE (s : State) : Out State := alu .cp (s.reg8 .e) 1 s

/-- `CP H` (R268). -/
def execCpH (s : State) : Out State := alu .cp (s.reg8 .h) 1 s

/-- `CP L` (R268). -/
def execCpL (s : State) : Out State := alu .cp (s.reg8 .l) 1 s

/-- `CP (HL)` (R270). -/
def execCpMemHl (s : State) : Out State := aluMem .cp s.hl 1 s

/-- `CP A` (R268). -/
def execCpA (s : State) : Out State := alu .cp (s.reg8 .a) 1 s

/-- `ADD A,n` (R241). -/
def execAddAN (n : Byte) (s : State) : Out State := alu .add n 2 s

/-- `ADC A,n` (R245). -/
def execAdcAN (n : Byte) (s : State) : Out State := alu .adc n 2 s

/-- `SUB n` (R249). -/
def execSubN (n : Byte) (s : State) : Out State := alu .sub n 2 s

/-- `SBC A,n` (R253). -/
def execSbcAN (n : Byte) (s : State) : Out State := alu .sbc n 2 s

/-- `AND n` (R257). -/
def execAndN (n : Byte) (s : State) : Out State := alu .and n 2 s

/-- `XOR n` (R261). -/
def execXorN (n : Byte) (s : State) : Out State := alu .xor n 2 s

/-- `OR n` (R265). -/
def execOrN (n : Byte) (s : State) : Out State := alu .or n 2 s

/-- `CP n` (R269). -/
def execCpN (n : Byte) (s : State) : Out State := alu .cp n 2 s

/-- `INC (IX+d)` (R274). -/
def execIncMemIx (d : Int) (s : State) : Out State := updateByte inc8 (s.ea .ix d) 3 s

/-- `DEC (IX+d)` (R277). -/
def execDecMemIx (d : Int) (s : State) : Out State := updateByte dec8 (s.ea .ix d) 3 s

/-- `ADD A,(IX+d)` (R243). -/
def execAddAMemIx (d : Int) (s : State) : Out State := aluMem .add (s.ea .ix d) 3 s

/-- `ADC A,(IX+d)` (R247). -/
def execAdcAMemIx (d : Int) (s : State) : Out State := aluMem .adc (s.ea .ix d) 3 s

/-- `SUB (IX+d)` (R251). -/
def execSubMemIx (d : Int) (s : State) : Out State := aluMem .sub (s.ea .ix d) 3 s

/-- `SBC A,(IX+d)` (R255). -/
def execSbcAMemIx (d : Int) (s : State) : Out State := aluMem .sbc (s.ea .ix d) 3 s

/-- `AND (IX+d)` (R259). -/
def execAndMemIx (d : Int) (s : State) : Out State := aluMem .and (s.ea .ix d) 3 s

/-- `XOR (IX+d)` (R263). -/
def execXorMemIx (d : Int) (s : State) : Out State := aluMem .xor (s.ea .ix d) 3 s

/-- `OR (IX+d)` (R267). -/
def execOrMemIx (d : Int) (s : State) : Out State := aluMem .or (s.ea .ix d) 3 s

/-- `CP (IX+d)` (R271). -/
def execCpMemIx (d : Int) (s : State) : Out State := aluMem .cp (s.ea .ix d) 3 s

/-- `INC (IY+d)` (R274). -/
def execIncMemIy (d : Int) (s : State) : Out State := updateByte inc8 (s.ea .iy d) 3 s

/-- `DEC (IY+d)` (R277). -/
def execDecMemIy (d : Int) (s : State) : Out State := updateByte dec8 (s.ea .iy d) 3 s

/-- `ADD A,(IY+d)` (R243). -/
def execAddAMemIy (d : Int) (s : State) : Out State := aluMem .add (s.ea .iy d) 3 s

/-- `ADC A,(IY+d)` (R247). -/
def execAdcAMemIy (d : Int) (s : State) : Out State := aluMem .adc (s.ea .iy d) 3 s

/-- `SUB (IY+d)` (R251). -/
def execSubMemIy (d : Int) (s : State) : Out State := aluMem .sub (s.ea .iy d) 3 s

/-- `SBC A,(IY+d)` (R255). -/
def execSbcAMemIy (d : Int) (s : State) : Out State := aluMem .sbc (s.ea .iy d) 3 s

/-- `AND (IY+d)` (R259). -/
def execAndMemIy (d : Int) (s : State) : Out State := aluMem .and (s.ea .iy d) 3 s

/-- `XOR (IY+d)` (R263). -/
def execXorMemIy (d : Int) (s : State) : Out State := aluMem .xor (s.ea .iy d) 3 s

/-- `OR (IY+d)` (R267). -/
def execOrMemIy (d : Int) (s : State) : Out State := aluMem .or (s.ea .iy d) 3 s

/-- `CP (IY+d)` (R271). -/
def execCpMemIy (d : Int) (s : State) : Out State := aluMem .cp (s.ea .iy d) 3 s
end Sys2Proof.Machine
end

