-- ==== Sys2Proof/Machine/Bits.lean ====
section
/-! DEFINITION. The bit test, set and reset group (47_bit.md, R380 to R388): its shared operations, then one meaning
for each row of the opcode table. -/

namespace Sys2Proof.Machine

/-- The flags of BIT: S and P/V are the draws given, Z = 1 when the bit is 0, H = 1, N = 0, C unchanged (R380). -/
def bitFlags (b : Fin 8) (v : Byte) (ds dp : Bool) : FlagSet :=
  { s := some ds, z := some (!v.getLsbD b.val), h := some true, pv := some dp, n := some false, c := none }

/-- BIT on the byte `v`: four draws, S, P/V, bit 5 and bit 3 in this order (R380, R233; log entry 4). -/
def testBit (b : Fin 8) (v : Byte) (len : Nat) (s : State) : Out State :=
  .next (({ s with draws := s.draws + 2 }.setF
    (bitFlags b v (Config.freeBit s.draws) (Config.freeBit (s.draws + 1)))).advance len)

/-- BIT on the byte at `a` (R381, R382). -/
def testMem (b : Fin 8) (a : Word) (len : Nat) (s : State) : Out State :=
  withValue (memRead a s) fun v s1 => testBit b v len s1

/-- `v OR 2^b` (R383). -/
def setBit (b : Fin 8) (v : Byte) : Byte := v ||| BitVec.ofNat 8 (2 ^ b.val)

/-- `v AND (255 - 2^b)` (R386). -/
def resBit (b : Fin 8) (v : Byte) : Byte := v &&& BitVec.ofNat 8 (255 - 2 ^ b.val)

/-- Read the byte at `a` and write it back changed; no flag is written (R384, R385, R387, R388). -/
def changeByte (g : Byte → Byte) (a : Word) (len : Nat) (s : State) : Out State :=
  withValue (memRead a s) fun v s1 =>
    afterwards (memWrite a (g v) s1) fun s2 => .next (s2.advance len)

/-! ### The instructions -/

/-- `BIT 0,B` (R380). -/
def execBit0B (s : State) : Out State := testBit 0 (s.reg8 .b) 2 s

/-- `BIT 0,C` (R380). -/
def execBit0C (s : State) : Out State := testBit 0 (s.reg8 .c) 2 s

/-- `BIT 0,D` (R380). -/
def execBit0D (s : State) : Out State := testBit 0 (s.reg8 .d) 2 s

/-- `BIT 0,E` (R380). -/
def execBit0E (s : State) : Out State := testBit 0 (s.reg8 .e) 2 s

/-- `BIT 0,H` (R380). -/
def execBit0H (s : State) : Out State := testBit 0 (s.reg8 .h) 2 s

/-- `BIT 0,L` (R380). -/
def execBit0L (s : State) : Out State := testBit 0 (s.reg8 .l) 2 s

/-- `BIT 0,(HL)` (R381). -/
def execBit0MemHl (s : State) : Out State := testMem 0 s.hl 2 s

/-- `BIT 0,A` (R380). -/
def execBit0A (s : State) : Out State := testBit 0 (s.reg8 .a) 2 s

/-- `BIT 1,B` (R380). -/
def execBit1B (s : State) : Out State := testBit 1 (s.reg8 .b) 2 s

/-- `BIT 1,C` (R380). -/
def execBit1C (s : State) : Out State := testBit 1 (s.reg8 .c) 2 s

/-- `BIT 1,D` (R380). -/
def execBit1D (s : State) : Out State := testBit 1 (s.reg8 .d) 2 s

/-- `BIT 1,E` (R380). -/
def execBit1E (s : State) : Out State := testBit 1 (s.reg8 .e) 2 s

/-- `BIT 1,H` (R380). -/
def execBit1H (s : State) : Out State := testBit 1 (s.reg8 .h) 2 s

/-- `BIT 1,L` (R380). -/
def execBit1L (s : State) : Out State := testBit 1 (s.reg8 .l) 2 s

/-- `BIT 1,(HL)` (R381). -/
def execBit1MemHl (s : State) : Out State := testMem 1 s.hl 2 s

/-- `BIT 1,A` (R380). -/
def execBit1A (s : State) : Out State := testBit 1 (s.reg8 .a) 2 s

/-- `BIT 2,B` (R380). -/
def execBit2B (s : State) : Out State := testBit 2 (s.reg8 .b) 2 s

/-- `BIT 2,C` (R380). -/
def execBit2C (s : State) : Out State := testBit 2 (s.reg8 .c) 2 s

/-- `BIT 2,D` (R380). -/
def execBit2D (s : State) : Out State := testBit 2 (s.reg8 .d) 2 s

/-- `BIT 2,E` (R380). -/
def execBit2E (s : State) : Out State := testBit 2 (s.reg8 .e) 2 s

/-- `BIT 2,H` (R380). -/
def execBit2H (s : State) : Out State := testBit 2 (s.reg8 .h) 2 s

/-- `BIT 2,L` (R380). -/
def execBit2L (s : State) : Out State := testBit 2 (s.reg8 .l) 2 s

/-- `BIT 2,(HL)` (R381). -/
def execBit2MemHl (s : State) : Out State := testMem 2 s.hl 2 s

/-- `BIT 2,A` (R380). -/
def execBit2A (s : State) : Out State := testBit 2 (s.reg8 .a) 2 s

/-- `BIT 3,B` (R380). -/
def execBit3B (s : State) : Out State := testBit 3 (s.reg8 .b) 2 s

/-- `BIT 3,C` (R380). -/
def execBit3C (s : State) : Out State := testBit 3 (s.reg8 .c) 2 s

/-- `BIT 3,D` (R380). -/
def execBit3D (s : State) : Out State := testBit 3 (s.reg8 .d) 2 s

/-- `BIT 3,E` (R380). -/
def execBit3E (s : State) : Out State := testBit 3 (s.reg8 .e) 2 s

/-- `BIT 3,H` (R380). -/
def execBit3H (s : State) : Out State := testBit 3 (s.reg8 .h) 2 s

/-- `BIT 3,L` (R380). -/
def execBit3L (s : State) : Out State := testBit 3 (s.reg8 .l) 2 s

/-- `BIT 3,(HL)` (R381). -/
def execBit3MemHl (s : State) : Out State := testMem 3 s.hl 2 s

/-- `BIT 3,A` (R380). -/
def execBit3A (s : State) : Out State := testBit 3 (s.reg8 .a) 2 s

/-- `BIT 4,B` (R380). -/
def execBit4B (s : State) : Out State := testBit 4 (s.reg8 .b) 2 s

/-- `BIT 4,C` (R380). -/
def execBit4C (s : State) : Out State := testBit 4 (s.reg8 .c) 2 s

/-- `BIT 4,D` (R380). -/
def execBit4D (s : State) : Out State := testBit 4 (s.reg8 .d) 2 s

/-- `BIT 4,E` (R380). -/
def execBit4E (s : State) : Out State := testBit 4 (s.reg8 .e) 2 s

/-- `BIT 4,H` (R380). -/
def execBit4H (s : State) : Out State := testBit 4 (s.reg8 .h) 2 s

/-- `BIT 4,L` (R380). -/
def execBit4L (s : State) : Out State := testBit 4 (s.reg8 .l) 2 s

/-- `BIT 4,(HL)` (R381). -/
def execBit4MemHl (s : State) : Out State := testMem 4 s.hl 2 s

/-- `BIT 4,A` (R380). -/
def execBit4A (s : State) : Out State := testBit 4 (s.reg8 .a) 2 s

/-- `BIT 5,B` (R380). -/
def execBit5B (s : State) : Out State := testBit 5 (s.reg8 .b) 2 s

/-- `BIT 5,C` (R380). -/
def execBit5C (s : State) : Out State := testBit 5 (s.reg8 .c) 2 s

/-- `BIT 5,D` (R380). -/
def execBit5D (s : State) : Out State := testBit 5 (s.reg8 .d) 2 s

/-- `BIT 5,E` (R380). -/
def execBit5E (s : State) : Out State := testBit 5 (s.reg8 .e) 2 s

/-- `BIT 5,H` (R380). -/
def execBit5H (s : State) : Out State := testBit 5 (s.reg8 .h) 2 s

/-- `BIT 5,L` (R380). -/
def execBit5L (s : State) : Out State := testBit 5 (s.reg8 .l) 2 s

/-- `BIT 5,(HL)` (R381). -/
def execBit5MemHl (s : State) : Out State := testMem 5 s.hl 2 s

/-- `BIT 5,A` (R380). -/
def execBit5A (s : State) : Out State := testBit 5 (s.reg8 .a) 2 s

/-- `BIT 6,B` (R380). -/
def execBit6B (s : State) : Out State := testBit 6 (s.reg8 .b) 2 s

/-- `BIT 6,C` (R380). -/
def execBit6C (s : State) : Out State := testBit 6 (s.reg8 .c) 2 s

/-- `BIT 6,D` (R380). -/
def execBit6D (s : State) : Out State := testBit 6 (s.reg8 .d) 2 s

/-- `BIT 6,E` (R380). -/
def execBit6E (s : State) : Out State := testBit 6 (s.reg8 .e) 2 s

/-- `BIT 6,H` (R380). -/
def execBit6H (s : State) : Out State := testBit 6 (s.reg8 .h) 2 s

/-- `BIT 6,L` (R380). -/
def execBit6L (s : State) : Out State := testBit 6 (s.reg8 .l) 2 s

/-- `BIT 6,(HL)` (R381). -/
def execBit6MemHl (s : State) : Out State := testMem 6 s.hl 2 s

/-- `BIT 6,A` (R380). -/
def execBit6A (s : State) : Out State := testBit 6 (s.reg8 .a) 2 s

/-- `BIT 7,B` (R380). -/
def execBit7B (s : State) : Out State := testBit 7 (s.reg8 .b) 2 s

/-- `BIT 7,C` (R380). -/
def execBit7C (s : State) : Out State := testBit 7 (s.reg8 .c) 2 s

/-- `BIT 7,D` (R380). -/
def execBit7D (s : State) : Out State := testBit 7 (s.reg8 .d) 2 s

/-- `BIT 7,E` (R380). -/
def execBit7E (s : State) : Out State := testBit 7 (s.reg8 .e) 2 s

/-- `BIT 7,H` (R380). -/
def execBit7H (s : State) : Out State := testBit 7 (s.reg8 .h) 2 s

/-- `BIT 7,L` (R380). -/
def execBit7L (s : State) : Out State := testBit 7 (s.reg8 .l) 2 s

/-- `BIT 7,(HL)` (R381). -/
def execBit7MemHl (s : State) : Out State := testMem 7 s.hl 2 s

/-- `BIT 7,A` (R380). -/
def execBit7A (s : State) : Out State := testBit 7 (s.reg8 .a) 2 s

/-- `RES 0,B` (R386). -/
def execRes0B (s : State) : Out State := .next ((s.setReg8 .b (resBit 0 (s.reg8 .b))).advance 2)

/-- `RES 0,C` (R386). -/
def execRes0C (s : State) : Out State := .next ((s.setReg8 .c (resBit 0 (s.reg8 .c))).advance 2)

/-- `RES 0,D` (R386). -/
def execRes0D (s : State) : Out State := .next ((s.setReg8 .d (resBit 0 (s.reg8 .d))).advance 2)

/-- `RES 0,E` (R386). -/
def execRes0E (s : State) : Out State := .next ((s.setReg8 .e (resBit 0 (s.reg8 .e))).advance 2)

/-- `RES 0,H` (R386). -/
def execRes0H (s : State) : Out State := .next ((s.setReg8 .h (resBit 0 (s.reg8 .h))).advance 2)

/-- `RES 0,L` (R386). -/
def execRes0L (s : State) : Out State := .next ((s.setReg8 .l (resBit 0 (s.reg8 .l))).advance 2)

/-- `RES 0,(HL)` (R387). -/
def execRes0MemHl (s : State) : Out State := changeByte (resBit 0) s.hl 2 s

/-- `RES 0,A` (R386). -/
def execRes0A (s : State) : Out State := .next ((s.setReg8 .a (resBit 0 (s.reg8 .a))).advance 2)

/-- `RES 1,B` (R386). -/
def execRes1B (s : State) : Out State := .next ((s.setReg8 .b (resBit 1 (s.reg8 .b))).advance 2)

/-- `RES 1,C` (R386). -/
def execRes1C (s : State) : Out State := .next ((s.setReg8 .c (resBit 1 (s.reg8 .c))).advance 2)

/-- `RES 1,D` (R386). -/
def execRes1D (s : State) : Out State := .next ((s.setReg8 .d (resBit 1 (s.reg8 .d))).advance 2)

/-- `RES 1,E` (R386). -/
def execRes1E (s : State) : Out State := .next ((s.setReg8 .e (resBit 1 (s.reg8 .e))).advance 2)

/-- `RES 1,H` (R386). -/
def execRes1H (s : State) : Out State := .next ((s.setReg8 .h (resBit 1 (s.reg8 .h))).advance 2)

/-- `RES 1,L` (R386). -/
def execRes1L (s : State) : Out State := .next ((s.setReg8 .l (resBit 1 (s.reg8 .l))).advance 2)

/-- `RES 1,(HL)` (R387). -/
def execRes1MemHl (s : State) : Out State := changeByte (resBit 1) s.hl 2 s

/-- `RES 1,A` (R386). -/
def execRes1A (s : State) : Out State := .next ((s.setReg8 .a (resBit 1 (s.reg8 .a))).advance 2)

/-- `RES 2,B` (R386). -/
def execRes2B (s : State) : Out State := .next ((s.setReg8 .b (resBit 2 (s.reg8 .b))).advance 2)

/-- `RES 2,C` (R386). -/
def execRes2C (s : State) : Out State := .next ((s.setReg8 .c (resBit 2 (s.reg8 .c))).advance 2)

/-- `RES 2,D` (R386). -/
def execRes2D (s : State) : Out State := .next ((s.setReg8 .d (resBit 2 (s.reg8 .d))).advance 2)

/-- `RES 2,E` (R386). -/
def execRes2E (s : State) : Out State := .next ((s.setReg8 .e (resBit 2 (s.reg8 .e))).advance 2)

/-- `RES 2,H` (R386). -/
def execRes2H (s : State) : Out State := .next ((s.setReg8 .h (resBit 2 (s.reg8 .h))).advance 2)

/-- `RES 2,L` (R386). -/
def execRes2L (s : State) : Out State := .next ((s.setReg8 .l (resBit 2 (s.reg8 .l))).advance 2)

/-- `RES 2,(HL)` (R387). -/
def execRes2MemHl (s : State) : Out State := changeByte (resBit 2) s.hl 2 s

/-- `RES 2,A` (R386). -/
def execRes2A (s : State) : Out State := .next ((s.setReg8 .a (resBit 2 (s.reg8 .a))).advance 2)

/-- `RES 3,B` (R386). -/
def execRes3B (s : State) : Out State := .next ((s.setReg8 .b (resBit 3 (s.reg8 .b))).advance 2)

/-- `RES 3,C` (R386). -/
def execRes3C (s : State) : Out State := .next ((s.setReg8 .c (resBit 3 (s.reg8 .c))).advance 2)

/-- `RES 3,D` (R386). -/
def execRes3D (s : State) : Out State := .next ((s.setReg8 .d (resBit 3 (s.reg8 .d))).advance 2)

/-- `RES 3,E` (R386). -/
def execRes3E (s : State) : Out State := .next ((s.setReg8 .e (resBit 3 (s.reg8 .e))).advance 2)

/-- `RES 3,H` (R386). -/
def execRes3H (s : State) : Out State := .next ((s.setReg8 .h (resBit 3 (s.reg8 .h))).advance 2)

/-- `RES 3,L` (R386). -/
def execRes3L (s : State) : Out State := .next ((s.setReg8 .l (resBit 3 (s.reg8 .l))).advance 2)

/-- `RES 3,(HL)` (R387). -/
def execRes3MemHl (s : State) : Out State := changeByte (resBit 3) s.hl 2 s

/-- `RES 3,A` (R386). -/
def execRes3A (s : State) : Out State := .next ((s.setReg8 .a (resBit 3 (s.reg8 .a))).advance 2)

/-- `RES 4,B` (R386). -/
def execRes4B (s : State) : Out State := .next ((s.setReg8 .b (resBit 4 (s.reg8 .b))).advance 2)

/-- `RES 4,C` (R386). -/
def execRes4C (s : State) : Out State := .next ((s.setReg8 .c (resBit 4 (s.reg8 .c))).advance 2)

/-- `RES 4,D` (R386). -/
def execRes4D (s : State) : Out State := .next ((s.setReg8 .d (resBit 4 (s.reg8 .d))).advance 2)

/-- `RES 4,E` (R386). -/
def execRes4E (s : State) : Out State := .next ((s.setReg8 .e (resBit 4 (s.reg8 .e))).advance 2)

/-- `RES 4,H` (R386). -/
def execRes4H (s : State) : Out State := .next ((s.setReg8 .h (resBit 4 (s.reg8 .h))).advance 2)

/-- `RES 4,L` (R386). -/
def execRes4L (s : State) : Out State := .next ((s.setReg8 .l (resBit 4 (s.reg8 .l))).advance 2)

/-- `RES 4,(HL)` (R387). -/
def execRes4MemHl (s : State) : Out State := changeByte (resBit 4) s.hl 2 s

/-- `RES 4,A` (R386). -/
def execRes4A (s : State) : Out State := .next ((s.setReg8 .a (resBit 4 (s.reg8 .a))).advance 2)

/-- `RES 5,B` (R386). -/
def execRes5B (s : State) : Out State := .next ((s.setReg8 .b (resBit 5 (s.reg8 .b))).advance 2)

/-- `RES 5,C` (R386). -/
def execRes5C (s : State) : Out State := .next ((s.setReg8 .c (resBit 5 (s.reg8 .c))).advance 2)

/-- `RES 5,D` (R386). -/
def execRes5D (s : State) : Out State := .next ((s.setReg8 .d (resBit 5 (s.reg8 .d))).advance 2)

/-- `RES 5,E` (R386). -/
def execRes5E (s : State) : Out State := .next ((s.setReg8 .e (resBit 5 (s.reg8 .e))).advance 2)

/-- `RES 5,H` (R386). -/
def execRes5H (s : State) : Out State := .next ((s.setReg8 .h (resBit 5 (s.reg8 .h))).advance 2)

/-- `RES 5,L` (R386). -/
def execRes5L (s : State) : Out State := .next ((s.setReg8 .l (resBit 5 (s.reg8 .l))).advance 2)

/-- `RES 5,(HL)` (R387). -/
def execRes5MemHl (s : State) : Out State := changeByte (resBit 5) s.hl 2 s

/-- `RES 5,A` (R386). -/
def execRes5A (s : State) : Out State := .next ((s.setReg8 .a (resBit 5 (s.reg8 .a))).advance 2)

/-- `RES 6,B` (R386). -/
def execRes6B (s : State) : Out State := .next ((s.setReg8 .b (resBit 6 (s.reg8 .b))).advance 2)

/-- `RES 6,C` (R386). -/
def execRes6C (s : State) : Out State := .next ((s.setReg8 .c (resBit 6 (s.reg8 .c))).advance 2)

/-- `RES 6,D` (R386). -/
def execRes6D (s : State) : Out State := .next ((s.setReg8 .d (resBit 6 (s.reg8 .d))).advance 2)

/-- `RES 6,E` (R386). -/
def execRes6E (s : State) : Out State := .next ((s.setReg8 .e (resBit 6 (s.reg8 .e))).advance 2)

/-- `RES 6,H` (R386). -/
def execRes6H (s : State) : Out State := .next ((s.setReg8 .h (resBit 6 (s.reg8 .h))).advance 2)

/-- `RES 6,L` (R386). -/
def execRes6L (s : State) : Out State := .next ((s.setReg8 .l (resBit 6 (s.reg8 .l))).advance 2)

/-- `RES 6,(HL)` (R387). -/
def execRes6MemHl (s : State) : Out State := changeByte (resBit 6) s.hl 2 s

/-- `RES 6,A` (R386). -/
def execRes6A (s : State) : Out State := .next ((s.setReg8 .a (resBit 6 (s.reg8 .a))).advance 2)

/-- `RES 7,B` (R386). -/
def execRes7B (s : State) : Out State := .next ((s.setReg8 .b (resBit 7 (s.reg8 .b))).advance 2)

/-- `RES 7,C` (R386). -/
def execRes7C (s : State) : Out State := .next ((s.setReg8 .c (resBit 7 (s.reg8 .c))).advance 2)

/-- `RES 7,D` (R386). -/
def execRes7D (s : State) : Out State := .next ((s.setReg8 .d (resBit 7 (s.reg8 .d))).advance 2)

/-- `RES 7,E` (R386). -/
def execRes7E (s : State) : Out State := .next ((s.setReg8 .e (resBit 7 (s.reg8 .e))).advance 2)

/-- `RES 7,H` (R386). -/
def execRes7H (s : State) : Out State := .next ((s.setReg8 .h (resBit 7 (s.reg8 .h))).advance 2)

/-- `RES 7,L` (R386). -/
def execRes7L (s : State) : Out State := .next ((s.setReg8 .l (resBit 7 (s.reg8 .l))).advance 2)

/-- `RES 7,(HL)` (R387). -/
def execRes7MemHl (s : State) : Out State := changeByte (resBit 7) s.hl 2 s

/-- `RES 7,A` (R386). -/
def execRes7A (s : State) : Out State := .next ((s.setReg8 .a (resBit 7 (s.reg8 .a))).advance 2)

/-- `SET 0,B` (R383). -/
def execSet0B (s : State) : Out State := .next ((s.setReg8 .b (setBit 0 (s.reg8 .b))).advance 2)

/-- `SET 0,C` (R383). -/
def execSet0C (s : State) : Out State := .next ((s.setReg8 .c (setBit 0 (s.reg8 .c))).advance 2)

/-- `SET 0,D` (R383). -/
def execSet0D (s : State) : Out State := .next ((s.setReg8 .d (setBit 0 (s.reg8 .d))).advance 2)

/-- `SET 0,E` (R383). -/
def execSet0E (s : State) : Out State := .next ((s.setReg8 .e (setBit 0 (s.reg8 .e))).advance 2)

/-- `SET 0,H` (R383). -/
def execSet0H (s : State) : Out State := .next ((s.setReg8 .h (setBit 0 (s.reg8 .h))).advance 2)

/-- `SET 0,L` (R383). -/
def execSet0L (s : State) : Out State := .next ((s.setReg8 .l (setBit 0 (s.reg8 .l))).advance 2)

/-- `SET 0,(HL)` (R384). -/
def execSet0MemHl (s : State) : Out State := changeByte (setBit 0) s.hl 2 s

/-- `SET 0,A` (R383). -/
def execSet0A (s : State) : Out State := .next ((s.setReg8 .a (setBit 0 (s.reg8 .a))).advance 2)

/-- `SET 1,B` (R383). -/
def execSet1B (s : State) : Out State := .next ((s.setReg8 .b (setBit 1 (s.reg8 .b))).advance 2)

/-- `SET 1,C` (R383). -/
def execSet1C (s : State) : Out State := .next ((s.setReg8 .c (setBit 1 (s.reg8 .c))).advance 2)

/-- `SET 1,D` (R383). -/
def execSet1D (s : State) : Out State := .next ((s.setReg8 .d (setBit 1 (s.reg8 .d))).advance 2)

/-- `SET 1,E` (R383). -/
def execSet1E (s : State) : Out State := .next ((s.setReg8 .e (setBit 1 (s.reg8 .e))).advance 2)

/-- `SET 1,H` (R383). -/
def execSet1H (s : State) : Out State := .next ((s.setReg8 .h (setBit 1 (s.reg8 .h))).advance 2)

/-- `SET 1,L` (R383). -/
def execSet1L (s : State) : Out State := .next ((s.setReg8 .l (setBit 1 (s.reg8 .l))).advance 2)

/-- `SET 1,(HL)` (R384). -/
def execSet1MemHl (s : State) : Out State := changeByte (setBit 1) s.hl 2 s

/-- `SET 1,A` (R383). -/
def execSet1A (s : State) : Out State := .next ((s.setReg8 .a (setBit 1 (s.reg8 .a))).advance 2)

/-- `SET 2,B` (R383). -/
def execSet2B (s : State) : Out State := .next ((s.setReg8 .b (setBit 2 (s.reg8 .b))).advance 2)

/-- `SET 2,C` (R383). -/
def execSet2C (s : State) : Out State := .next ((s.setReg8 .c (setBit 2 (s.reg8 .c))).advance 2)

/-- `SET 2,D` (R383). -/
def execSet2D (s : State) : Out State := .next ((s.setReg8 .d (setBit 2 (s.reg8 .d))).advance 2)

/-- `SET 2,E` (R383). -/
def execSet2E (s : State) : Out State := .next ((s.setReg8 .e (setBit 2 (s.reg8 .e))).advance 2)

/-- `SET 2,H` (R383). -/
def execSet2H (s : State) : Out State := .next ((s.setReg8 .h (setBit 2 (s.reg8 .h))).advance 2)

/-- `SET 2,L` (R383). -/
def execSet2L (s : State) : Out State := .next ((s.setReg8 .l (setBit 2 (s.reg8 .l))).advance 2)

/-- `SET 2,(HL)` (R384). -/
def execSet2MemHl (s : State) : Out State := changeByte (setBit 2) s.hl 2 s

/-- `SET 2,A` (R383). -/
def execSet2A (s : State) : Out State := .next ((s.setReg8 .a (setBit 2 (s.reg8 .a))).advance 2)

/-- `SET 3,B` (R383). -/
def execSet3B (s : State) : Out State := .next ((s.setReg8 .b (setBit 3 (s.reg8 .b))).advance 2)

/-- `SET 3,C` (R383). -/
def execSet3C (s : State) : Out State := .next ((s.setReg8 .c (setBit 3 (s.reg8 .c))).advance 2)

/-- `SET 3,D` (R383). -/
def execSet3D (s : State) : Out State := .next ((s.setReg8 .d (setBit 3 (s.reg8 .d))).advance 2)

/-- `SET 3,E` (R383). -/
def execSet3E (s : State) : Out State := .next ((s.setReg8 .e (setBit 3 (s.reg8 .e))).advance 2)

/-- `SET 3,H` (R383). -/
def execSet3H (s : State) : Out State := .next ((s.setReg8 .h (setBit 3 (s.reg8 .h))).advance 2)

/-- `SET 3,L` (R383). -/
def execSet3L (s : State) : Out State := .next ((s.setReg8 .l (setBit 3 (s.reg8 .l))).advance 2)

/-- `SET 3,(HL)` (R384). -/
def execSet3MemHl (s : State) : Out State := changeByte (setBit 3) s.hl 2 s

/-- `SET 3,A` (R383). -/
def execSet3A (s : State) : Out State := .next ((s.setReg8 .a (setBit 3 (s.reg8 .a))).advance 2)

/-- `SET 4,B` (R383). -/
def execSet4B (s : State) : Out State := .next ((s.setReg8 .b (setBit 4 (s.reg8 .b))).advance 2)

/-- `SET 4,C` (R383). -/
def execSet4C (s : State) : Out State := .next ((s.setReg8 .c (setBit 4 (s.reg8 .c))).advance 2)

/-- `SET 4,D` (R383). -/
def execSet4D (s : State) : Out State := .next ((s.setReg8 .d (setBit 4 (s.reg8 .d))).advance 2)

/-- `SET 4,E` (R383). -/
def execSet4E (s : State) : Out State := .next ((s.setReg8 .e (setBit 4 (s.reg8 .e))).advance 2)

/-- `SET 4,H` (R383). -/
def execSet4H (s : State) : Out State := .next ((s.setReg8 .h (setBit 4 (s.reg8 .h))).advance 2)

/-- `SET 4,L` (R383). -/
def execSet4L (s : State) : Out State := .next ((s.setReg8 .l (setBit 4 (s.reg8 .l))).advance 2)

/-- `SET 4,(HL)` (R384). -/
def execSet4MemHl (s : State) : Out State := changeByte (setBit 4) s.hl 2 s

/-- `SET 4,A` (R383). -/
def execSet4A (s : State) : Out State := .next ((s.setReg8 .a (setBit 4 (s.reg8 .a))).advance 2)

/-- `SET 5,B` (R383). -/
def execSet5B (s : State) : Out State := .next ((s.setReg8 .b (setBit 5 (s.reg8 .b))).advance 2)

/-- `SET 5,C` (R383). -/
def execSet5C (s : State) : Out State := .next ((s.setReg8 .c (setBit 5 (s.reg8 .c))).advance 2)

/-- `SET 5,D` (R383). -/
def execSet5D (s : State) : Out State := .next ((s.setReg8 .d (setBit 5 (s.reg8 .d))).advance 2)

/-- `SET 5,E` (R383). -/
def execSet5E (s : State) : Out State := .next ((s.setReg8 .e (setBit 5 (s.reg8 .e))).advance 2)

/-- `SET 5,H` (R383). -/
def execSet5H (s : State) : Out State := .next ((s.setReg8 .h (setBit 5 (s.reg8 .h))).advance 2)

/-- `SET 5,L` (R383). -/
def execSet5L (s : State) : Out State := .next ((s.setReg8 .l (setBit 5 (s.reg8 .l))).advance 2)

/-- `SET 5,(HL)` (R384). -/
def execSet5MemHl (s : State) : Out State := changeByte (setBit 5) s.hl 2 s

/-- `SET 5,A` (R383). -/
def execSet5A (s : State) : Out State := .next ((s.setReg8 .a (setBit 5 (s.reg8 .a))).advance 2)

/-- `SET 6,B` (R383). -/
def execSet6B (s : State) : Out State := .next ((s.setReg8 .b (setBit 6 (s.reg8 .b))).advance 2)

/-- `SET 6,C` (R383). -/
def execSet6C (s : State) : Out State := .next ((s.setReg8 .c (setBit 6 (s.reg8 .c))).advance 2)

/-- `SET 6,D` (R383). -/
def execSet6D (s : State) : Out State := .next ((s.setReg8 .d (setBit 6 (s.reg8 .d))).advance 2)

/-- `SET 6,E` (R383). -/
def execSet6E (s : State) : Out State := .next ((s.setReg8 .e (setBit 6 (s.reg8 .e))).advance 2)

/-- `SET 6,H` (R383). -/
def execSet6H (s : State) : Out State := .next ((s.setReg8 .h (setBit 6 (s.reg8 .h))).advance 2)

/-- `SET 6,L` (R383). -/
def execSet6L (s : State) : Out State := .next ((s.setReg8 .l (setBit 6 (s.reg8 .l))).advance 2)

/-- `SET 6,(HL)` (R384). -/
def execSet6MemHl (s : State) : Out State := changeByte (setBit 6) s.hl 2 s

/-- `SET 6,A` (R383). -/
def execSet6A (s : State) : Out State := .next ((s.setReg8 .a (setBit 6 (s.reg8 .a))).advance 2)

/-- `SET 7,B` (R383). -/
def execSet7B (s : State) : Out State := .next ((s.setReg8 .b (setBit 7 (s.reg8 .b))).advance 2)

/-- `SET 7,C` (R383). -/
def execSet7C (s : State) : Out State := .next ((s.setReg8 .c (setBit 7 (s.reg8 .c))).advance 2)

/-- `SET 7,D` (R383). -/
def execSet7D (s : State) : Out State := .next ((s.setReg8 .d (setBit 7 (s.reg8 .d))).advance 2)

/-- `SET 7,E` (R383). -/
def execSet7E (s : State) : Out State := .next ((s.setReg8 .e (setBit 7 (s.reg8 .e))).advance 2)

/-- `SET 7,H` (R383). -/
def execSet7H (s : State) : Out State := .next ((s.setReg8 .h (setBit 7 (s.reg8 .h))).advance 2)

/-- `SET 7,L` (R383). -/
def execSet7L (s : State) : Out State := .next ((s.setReg8 .l (setBit 7 (s.reg8 .l))).advance 2)

/-- `SET 7,(HL)` (R384). -/
def execSet7MemHl (s : State) : Out State := changeByte (setBit 7) s.hl 2 s

/-- `SET 7,A` (R383). -/
def execSet7A (s : State) : Out State := .next ((s.setReg8 .a (setBit 7 (s.reg8 .a))).advance 2)

/-- `BIT 0,(IX+d)` (R382). -/
def execBit0MemIx (d : Int) (s : State) : Out State := testMem 0 (s.ea .ix d) 4 s

/-- `BIT 1,(IX+d)` (R382). -/
def execBit1MemIx (d : Int) (s : State) : Out State := testMem 1 (s.ea .ix d) 4 s

/-- `BIT 2,(IX+d)` (R382). -/
def execBit2MemIx (d : Int) (s : State) : Out State := testMem 2 (s.ea .ix d) 4 s

/-- `BIT 3,(IX+d)` (R382). -/
def execBit3MemIx (d : Int) (s : State) : Out State := testMem 3 (s.ea .ix d) 4 s

/-- `BIT 4,(IX+d)` (R382). -/
def execBit4MemIx (d : Int) (s : State) : Out State := testMem 4 (s.ea .ix d) 4 s

/-- `BIT 5,(IX+d)` (R382). -/
def execBit5MemIx (d : Int) (s : State) : Out State := testMem 5 (s.ea .ix d) 4 s

/-- `BIT 6,(IX+d)` (R382). -/
def execBit6MemIx (d : Int) (s : State) : Out State := testMem 6 (s.ea .ix d) 4 s

/-- `BIT 7,(IX+d)` (R382). -/
def execBit7MemIx (d : Int) (s : State) : Out State := testMem 7 (s.ea .ix d) 4 s

/-- `RES 0,(IX+d)` (R388). -/
def execRes0MemIx (d : Int) (s : State) : Out State := changeByte (resBit 0) (s.ea .ix d) 4 s

/-- `RES 1,(IX+d)` (R388). -/
def execRes1MemIx (d : Int) (s : State) : Out State := changeByte (resBit 1) (s.ea .ix d) 4 s

/-- `RES 2,(IX+d)` (R388). -/
def execRes2MemIx (d : Int) (s : State) : Out State := changeByte (resBit 2) (s.ea .ix d) 4 s

/-- `RES 3,(IX+d)` (R388). -/
def execRes3MemIx (d : Int) (s : State) : Out State := changeByte (resBit 3) (s.ea .ix d) 4 s

/-- `RES 4,(IX+d)` (R388). -/
def execRes4MemIx (d : Int) (s : State) : Out State := changeByte (resBit 4) (s.ea .ix d) 4 s

/-- `RES 5,(IX+d)` (R388). -/
def execRes5MemIx (d : Int) (s : State) : Out State := changeByte (resBit 5) (s.ea .ix d) 4 s

/-- `RES 6,(IX+d)` (R388). -/
def execRes6MemIx (d : Int) (s : State) : Out State := changeByte (resBit 6) (s.ea .ix d) 4 s

/-- `RES 7,(IX+d)` (R388). -/
def execRes7MemIx (d : Int) (s : State) : Out State := changeByte (resBit 7) (s.ea .ix d) 4 s

/-- `SET 0,(IX+d)` (R385). -/
def execSet0MemIx (d : Int) (s : State) : Out State := changeByte (setBit 0) (s.ea .ix d) 4 s

/-- `SET 1,(IX+d)` (R385). -/
def execSet1MemIx (d : Int) (s : State) : Out State := changeByte (setBit 1) (s.ea .ix d) 4 s

/-- `SET 2,(IX+d)` (R385). -/
def execSet2MemIx (d : Int) (s : State) : Out State := changeByte (setBit 2) (s.ea .ix d) 4 s

/-- `SET 3,(IX+d)` (R385). -/
def execSet3MemIx (d : Int) (s : State) : Out State := changeByte (setBit 3) (s.ea .ix d) 4 s

/-- `SET 4,(IX+d)` (R385). -/
def execSet4MemIx (d : Int) (s : State) : Out State := changeByte (setBit 4) (s.ea .ix d) 4 s

/-- `SET 5,(IX+d)` (R385). -/
def execSet5MemIx (d : Int) (s : State) : Out State := changeByte (setBit 5) (s.ea .ix d) 4 s

/-- `SET 6,(IX+d)` (R385). -/
def execSet6MemIx (d : Int) (s : State) : Out State := changeByte (setBit 6) (s.ea .ix d) 4 s

/-- `SET 7,(IX+d)` (R385). -/
def execSet7MemIx (d : Int) (s : State) : Out State := changeByte (setBit 7) (s.ea .ix d) 4 s

/-- `BIT 0,(IY+d)` (R382). -/
def execBit0MemIy (d : Int) (s : State) : Out State := testMem 0 (s.ea .iy d) 4 s

/-- `BIT 1,(IY+d)` (R382). -/
def execBit1MemIy (d : Int) (s : State) : Out State := testMem 1 (s.ea .iy d) 4 s

/-- `BIT 2,(IY+d)` (R382). -/
def execBit2MemIy (d : Int) (s : State) : Out State := testMem 2 (s.ea .iy d) 4 s

/-- `BIT 3,(IY+d)` (R382). -/
def execBit3MemIy (d : Int) (s : State) : Out State := testMem 3 (s.ea .iy d) 4 s

/-- `BIT 4,(IY+d)` (R382). -/
def execBit4MemIy (d : Int) (s : State) : Out State := testMem 4 (s.ea .iy d) 4 s

/-- `BIT 5,(IY+d)` (R382). -/
def execBit5MemIy (d : Int) (s : State) : Out State := testMem 5 (s.ea .iy d) 4 s

/-- `BIT 6,(IY+d)` (R382). -/
def execBit6MemIy (d : Int) (s : State) : Out State := testMem 6 (s.ea .iy d) 4 s

/-- `BIT 7,(IY+d)` (R382). -/
def execBit7MemIy (d : Int) (s : State) : Out State := testMem 7 (s.ea .iy d) 4 s

/-- `RES 0,(IY+d)` (R388). -/
def execRes0MemIy (d : Int) (s : State) : Out State := changeByte (resBit 0) (s.ea .iy d) 4 s

/-- `RES 1,(IY+d)` (R388). -/
def execRes1MemIy (d : Int) (s : State) : Out State := changeByte (resBit 1) (s.ea .iy d) 4 s

/-- `RES 2,(IY+d)` (R388). -/
def execRes2MemIy (d : Int) (s : State) : Out State := changeByte (resBit 2) (s.ea .iy d) 4 s

/-- `RES 3,(IY+d)` (R388). -/
def execRes3MemIy (d : Int) (s : State) : Out State := changeByte (resBit 3) (s.ea .iy d) 4 s

/-- `RES 4,(IY+d)` (R388). -/
def execRes4MemIy (d : Int) (s : State) : Out State := changeByte (resBit 4) (s.ea .iy d) 4 s

/-- `RES 5,(IY+d)` (R388). -/
def execRes5MemIy (d : Int) (s : State) : Out State := changeByte (resBit 5) (s.ea .iy d) 4 s

/-- `RES 6,(IY+d)` (R388). -/
def execRes6MemIy (d : Int) (s : State) : Out State := changeByte (resBit 6) (s.ea .iy d) 4 s

/-- `RES 7,(IY+d)` (R388). -/
def execRes7MemIy (d : Int) (s : State) : Out State := changeByte (resBit 7) (s.ea .iy d) 4 s

/-- `SET 0,(IY+d)` (R385). -/
def execSet0MemIy (d : Int) (s : State) : Out State := changeByte (setBit 0) (s.ea .iy d) 4 s

/-- `SET 1,(IY+d)` (R385). -/
def execSet1MemIy (d : Int) (s : State) : Out State := changeByte (setBit 1) (s.ea .iy d) 4 s

/-- `SET 2,(IY+d)` (R385). -/
def execSet2MemIy (d : Int) (s : State) : Out State := changeByte (setBit 2) (s.ea .iy d) 4 s

/-- `SET 3,(IY+d)` (R385). -/
def execSet3MemIy (d : Int) (s : State) : Out State := changeByte (setBit 3) (s.ea .iy d) 4 s

/-- `SET 4,(IY+d)` (R385). -/
def execSet4MemIy (d : Int) (s : State) : Out State := changeByte (setBit 4) (s.ea .iy d) 4 s

/-- `SET 5,(IY+d)` (R385). -/
def execSet5MemIy (d : Int) (s : State) : Out State := changeByte (setBit 5) (s.ea .iy d) 4 s

/-- `SET 6,(IY+d)` (R385). -/
def execSet6MemIy (d : Int) (s : State) : Out State := changeByte (setBit 6) (s.ea .iy d) 4 s

/-- `SET 7,(IY+d)` (R385). -/
def execSet7MemIy (d : Int) (s : State) : Out State := changeByte (setBit 7) (s.ea .iy d) 4 s
end Sys2Proof.Machine
end

