-- ==== Sys2Proof/Machine/Exchange.lean ====
section
/-! DEFINITION. The exchange, block transfer and block search group (42_exchange_block.md, R200 to R213): its shared
operations, then one meaning for each row of the opcode table. -/

namespace Sys2Proof.Machine

/-- DE and HL exchanged, with their marks (R200, R54). -/
def State.swapDeHl (s : State) : State :=
  { s with
    main := { s.main with
      d := s.main.h, e := s.main.l, h := s.main.d, l := s.main.e
      written := { s.main.written with
        d := s.main.written.h, e := s.main.written.l, h := s.main.written.d, l := s.main.written.e } } }

/-- Bank `k` with A and F, and their marks, taken from bank `m` (R201, R54). -/
def Bank.takeAf (k m : Bank) : Bank :=
  { k with a := m.a, f := m.f, written := { k.written with a := m.written.a, f := m.written.f } }

/-- A and F exchanged with A' and F', with their marks (R201, R54). -/
def State.swapAf (s : State) : State :=
  { s with main := s.main.takeAf s.shadow, shadow := s.shadow.takeAf s.main }

/-- B, C, D, E, H and L exchanged with their shadows, with their marks (R202, R54): each bank becomes the other one
but for A and F, which it keeps. -/
def State.swapBanks (s : State) : State :=
  { s with main := s.shadow.takeAf s.main, shadow := s.main.takeAf s.shadow }

/-- `t <- MemRead(SP, 2); MemWrite(SP, 2, HL); HL <- t; PC <- next` (R203). -/
def exchangeHl (s : State) : Out State :=
  withValue (memRead16 s.sp s) fun t s1 =>
    afterwards (memWrite16 s1.sp s1.hl s1) fun s2 => .next ((s2.setHl t).advance 1)

/-- `t <- MemRead(SP, 2); MemWrite(SP, 2, XY); XY <- t; PC <- next` (R204). -/
def exchangeIndex (x : Index) (s : State) : Out State :=
  withValue (memRead16 s.sp s) fun t s1 =>
    afterwards (memWrite16 s1.sp (s1.index x) s1) fun s2 => .next ((s2.setIndex x t).advance 2)

/-- How a step of a block instruction ends: `PC <- PC0` when it repeats (PC still holds PC0), else `PC <- next`
(R205, R430). -/
def blockEnd (again : Bool) (s : State) : Out State := .next (if again then s else s.advance 2)

/-- The flags of a block transfer step (R206, R208). -/
def transferFlags (bc : Word) : FlagSet :=
  { s := none, z := none, h := some false, pv := some (decide (bc ≠ 0)), n := some false, c := none }

/-- One step of LDI, LDD, LDIR or LDDR (R205 to R209). -/
def transfer (dir : Dir) (rep : Bool) (s : State) : Out State :=
  withValue (memRead s.hl s) fun v s1 =>
    afterwards (memWrite s1.de v s1) fun s2 =>
      blockEnd (rep && decide (s2.bc - 1 ≠ 0))
        ((((s2.setDe (dir.step s2.de)).setHl (dir.step s2.hl)).setBc (s2.bc - 1)).setF (transferFlags (s2.bc - 1)))

/-- The flags of a block search step: `a` is A, `v` the byte read, `bc` the counter after the decrement (R210). -/
def searchFlags (a v : Byte) (bc : Word) : FlagSet :=
  { s := some ((a - v).getLsbD 7), z := some (decide (a - v = 0)),
    h := some (decide (a.toNat % 16 < v.toNat % 16)), pv := some (decide (bc ≠ 0)), n := some true, c := none }

/-- One step of CPI, CPD, CPIR or CPDR (R205, R210 to R213). -/
def search (dir : Dir) (rep : Bool) (s : State) : Out State :=
  withValue (memRead s.hl s) fun v s1 =>
    blockEnd (rep && decide (s1.bc - 1 ≠ 0) && decide (s1.main.a - v ≠ 0))
      (((s1.setHl (dir.step s1.hl)).setBc (s1.bc - 1)).setF (searchFlags s1.main.a v (s1.bc - 1)))

/-! ### The instructions -/

/-- `EX AF,AF'` (R201). -/
def execExAfAf (s : State) : Out State := .next (s.swapAf.advance 1)

/-- `EXX` (R202). -/
def execExx (s : State) : Out State := .next (s.swapBanks.advance 1)

/-- `EX (SP),HL` (R203). -/
def execExMemSpHl (s : State) : Out State := exchangeHl s

/-- `EX DE,HL` (R200). -/
def execExDeHl (s : State) : Out State := .next (s.swapDeHl.advance 1)

/-- `EX (SP),IX` (R204). -/
def execExMemSpIx (s : State) : Out State := exchangeIndex .ix s

/-- `EX (SP),IY` (R204). -/
def execExMemSpIy (s : State) : Out State := exchangeIndex .iy s

/-- `LDI` (R206). -/
def execLdi (s : State) : Out State := transfer .up false s

/-- `CPI` (R210). -/
def execCpi (s : State) : Out State := search .up false s

/-- `LDD` (R208). -/
def execLdd (s : State) : Out State := transfer .down false s

/-- `CPD` (R212). -/
def execCpd (s : State) : Out State := search .down false s

/-- `LDIR` (R207). -/
def execLdir (s : State) : Out State := transfer .up true s

/-- `CPIR` (R211). -/
def execCpir (s : State) : Out State := search .up true s

/-- `LDDR` (R209). -/
def execLddr (s : State) : Out State := transfer .down true s

/-- `CPDR` (R213). -/
def execCpdr (s : State) : Out State := search .down true s
end Sys2Proof.Machine
end

