-- ==== Sys2Proof/Machine/General.lean ====
section
/-! DEFINITION. The general-purpose arithmetic and CPU control group (44_general_cpu.md, R300 to R311): its shared
operations, then one meaning for each row of the opcode table. -/

namespace Sys2Proof.Machine

/-- `A <- res`, the flags, `PC <- next` (R300 to R302). -/
def putA (x : ByteResult) (len : Nat) (s : State) : Out State :=
  .next (((s.setReg8 .a x.res).setF x.flags).advance len)

/-- CPL (R301). -/
def cpl8 (a : Byte) : ByteResult :=
  { res := BitVec.ofNat 8 (255 - a.toNat)
    flags := { s := none, z := none, h := some true, pv := none, n := some true, c := none } }

/-- The flags of CCF, from the carry before it (R303). -/
def ccfFlags (carry : Bool) : FlagSet :=
  { s := none, z := none, h := some carry, pv := none, n := some false, c := some (!carry) }

/-- The flags of SCF (R304). -/
def scfFlags : FlagSet :=
  { s := none, z := none, h := some false, pv := none, n := some false, c := some true }

/-! ### The instructions -/

/-- `NOP` (R305). -/
def execNop (s : State) : Out State := .next (s.advance 1)

/-- `DAA` (R300). -/
def execDaa (s : State) : Out State := putA (daa8 s.main.a s.main.f.h s.main.f.n s.main.f.c) 1 s

/-- `CPL` (R301). -/
def execCpl (s : State) : Out State := putA (cpl8 s.main.a) 1 s

/-- `SCF` (R304). -/
def execScf (s : State) : Out State := .next ((s.setF scfFlags).advance 1)

/-- `CCF` (R303). -/
def execCcf (s : State) : Out State := .next ((s.setF (ccfFlags s.main.f.c)).advance 1)

/-- `HALT` (R306). -/
def execHalt (s : State) : Out State := .next ({ s with halted := true }.advance 1)

/-- `DI` (R307). -/
def execDi (s : State) : Out State := .next ({ s with iff1 := false, iff2 := false }.advance 1)

/-- `EI` (R308). -/
def execEi (s : State) : Out State := .next ({ s with iff1 := true, iff2 := true, eiShadow := true }.advance 1)

/-- `NEG` (R302). -/
def execNeg (s : State) : Out State := putA (sub8 0 s.main.a false) 2 s

/-- `IM 0` (R309). -/
def execIm0 (s : State) : Out State := .next ({ s with im := .im0 }.advance 2)

/-- `IM 1` (R310). -/
def execIm1 (s : State) : Out State := .next ({ s with im := .im1 }.advance 2)

/-- `IM 2` (R311). -/
def execIm2 (s : State) : Out State := .next ({ s with im := .im2 }.advance 2)
end Sys2Proof.Machine
end

