-- ==== Sys2Proof/Machine/Io.lean ====
section
/-! DEFINITION. The input and output group (49_io.md, R430 to R442): its shared operations, then one meaning for each
row of the opcode table. -/

namespace Sys2Proof.Machine

/-- `A <- IoRead(n); PC <- next` (R431). -/
def inputA (n : Byte) (s : State) : Out State :=
  withValue (ioRead n s) fun v s1 => .next ((s1.setReg8 .a v).advance 2)

/-- `v <- IoRead(C); reg8[r] <- v`, the flags, `PC <- next` (R432). -/
def inputReg (r : Reg8) (s : State) : Out State :=
  withValue (ioRead s.main.c s) fun v s1 =>
    .next (((s1.setReg8 r v).setF (resultFlags v none)).advance 2)

/-- `IoWrite(port, v); PC <- next` (R437, R438). -/
def outputByte (port v : Byte) (s : State) : Out State :=
  afterwards (ioWrite port v s) fun s1 => .next (s1.advance 2)

/-- The flags of a block I/O step: Z = 1 exactly when B is 0 after the decrement; S, H, P/V, N and C are five draws in
this order, then bits 5 and 3 are drawn (R430, R233; log entry 4). -/
def State.setBlockFlags (s : State) : State :=
  { s with draws := s.draws + 5 }.setF
    { s := some (Config.freeBit s.draws), z := some (decide (s.main.b = 0)), h := some (Config.freeBit (s.draws + 1)),
      pv := some (Config.freeBit (s.draws + 2)), n := some (Config.freeBit (s.draws + 3)),
      c := some (Config.freeBit (s.draws + 4)) }

/-- One step of INI, IND, INIR or INDR (R430, R433 to R436). -/
def blockIn (dir : Dir) (rep : Bool) (s : State) : Out State :=
  withValue (ioRead s.main.c s) fun v s1 =>
    afterwards (memWrite s1.hl v s1) fun s2 =>
      blockEnd (rep && decide (s2.main.b - 1 ≠ 0))
        ((s2.setHl (dir.step s2.hl)).setReg8 .b (s2.main.b - 1)).setBlockFlags

/-- One step of OUTI, OUTD, OTIR or OTDR: B is decremented before the port write (R430, R439 to R442). -/
def blockOut (dir : Dir) (rep : Bool) (s : State) : Out State :=
  withValue (memRead s.hl s) fun v s1 =>
    afterwards (ioWrite s1.main.c v (s1.setReg8 .b (s1.main.b - 1))) fun s2 =>
      blockEnd (rep && decide (s2.main.b ≠ 0)) (s2.setHl (dir.step s2.hl)).setBlockFlags

/-! ### The instructions -/

/-- `OUT (n),A` (R437). -/
def execOutPortNA (n : Byte) (s : State) : Out State := outputByte n s.main.a s

/-- `IN A,(n)` (R431). -/
def execInAPortN (n : Byte) (s : State) : Out State := inputA n s

/-- `IN B,(C)` (R432). -/
def execInBPortC (s : State) : Out State := inputReg .b s

/-- `OUT (C),B` (R438). -/
def execOutPortCB (s : State) : Out State := outputByte s.main.c (s.reg8 .b) s

/-- `IN C,(C)` (R432). -/
def execInCPortC (s : State) : Out State := inputReg .c s

/-- `OUT (C),C` (R438). -/
def execOutPortCC (s : State) : Out State := outputByte s.main.c (s.reg8 .c) s

/-- `IN D,(C)` (R432). -/
def execInDPortC (s : State) : Out State := inputReg .d s

/-- `OUT (C),D` (R438). -/
def execOutPortCD (s : State) : Out State := outputByte s.main.c (s.reg8 .d) s

/-- `IN E,(C)` (R432). -/
def execInEPortC (s : State) : Out State := inputReg .e s

/-- `OUT (C),E` (R438). -/
def execOutPortCE (s : State) : Out State := outputByte s.main.c (s.reg8 .e) s

/-- `IN H,(C)` (R432). -/
def execInHPortC (s : State) : Out State := inputReg .h s

/-- `OUT (C),H` (R438). -/
def execOutPortCH (s : State) : Out State := outputByte s.main.c (s.reg8 .h) s

/-- `IN L,(C)` (R432). -/
def execInLPortC (s : State) : Out State := inputReg .l s

/-- `OUT (C),L` (R438). -/
def execOutPortCL (s : State) : Out State := outputByte s.main.c (s.reg8 .l) s

/-- `IN A,(C)` (R432). -/
def execInAPortC (s : State) : Out State := inputReg .a s

/-- `OUT (C),A` (R438). -/
def execOutPortCA (s : State) : Out State := outputByte s.main.c (s.reg8 .a) s

/-- `INI` (R433). -/
def execIni (s : State) : Out State := blockIn .up false s

/-- `OUTI` (R439). -/
def execOuti (s : State) : Out State := blockOut .up false s

/-- `IND` (R435). -/
def execInd (s : State) : Out State := blockIn .down false s

/-- `OUTD` (R441). -/
def execOutd (s : State) : Out State := blockOut .down false s

/-- `INIR` (R434). -/
def execInir (s : State) : Out State := blockIn .up true s

/-- `OTIR` (R440). -/
def execOtir (s : State) : Out State := blockOut .up true s

/-- `INDR` (R436). -/
def execIndr (s : State) : Out State := blockIn .down true s

/-- `OTDR` (R442). -/
def execOtdr (s : State) : Out State := blockOut .down true s
end Sys2Proof.Machine
end

