-- ==== Sys2Proof/Machine/Jump.lean ====
section
/-! DEFINITION. The jump, call, return and restart group (48_jump_call.md, R401 to R414): its shared operations, then
one meaning for each row of the opcode table. -/

namespace Sys2Proof.Machine

/-- DJNZ (R407). -/
def countB (e : Int) (s : State) : Out State :=
  .next (if s.main.b - 1 ≠ 0 then (s.setReg8 .b (s.main.b - 1)).jump (s.relative e)
    else (s.setReg8 .b (s.main.b - 1)).advance 2)

/-- `Push16(next); PC <- target` (R408, R414). -/
def callTo (target : Word) (len : Nat) (s : State) : Out State :=
  afterwards (push16 (s.pc + BitVec.ofNat 16 len) s) fun s1 => .next (s1.jump target)

/-- `PC <- Pop16()` (R410). -/
def returnTo (s : State) : Out State :=
  withValue (pop16 s) fun v s1 => .next (s1.jump v)

/-! ### The instructions -/

/-- `DJNZ e` (R407). -/
def execDjnzE (e : Int) (s : State) : Out State := countB e s

/-- `JR e` (R403). -/
def execJrE (e : Int) (s : State) : Out State := .next (s.jump (s.relative e))

/-- `JR NZ,e` (R404). -/
def execJrNzE (e : Int) (s : State) : Out State := .next (if s.cond .nz then s.jump (s.relative e) else s.advance 2)

/-- `JR Z,e` (R404). -/
def execJrZE (e : Int) (s : State) : Out State := .next (if s.cond .z then s.jump (s.relative e) else s.advance 2)

/-- `JR NC,e` (R404). -/
def execJrNcE (e : Int) (s : State) : Out State := .next (if s.cond .nc then s.jump (s.relative e) else s.advance 2)

/-- `JR C,e` (R404). -/
def execJrCE (e : Int) (s : State) : Out State := .next (if s.cond .c then s.jump (s.relative e) else s.advance 2)

/-- `RET NZ` (R411). -/
def execRetNz (s : State) : Out State := if s.cond .nz then returnTo s else .next (s.advance 1)

/-- `JP NZ,nn` (R402). -/
def execJpNzNn (nn : Word) (s : State) : Out State := .next (if s.cond .nz then s.jump nn else s.advance 3)

/-- `JP nn` (R401). -/
def execJpNn (nn : Word) (s : State) : Out State := .next (s.jump nn)

/-- `CALL NZ,nn` (R409). -/
def execCallNzNn (nn : Word) (s : State) : Out State := if s.cond .nz then callTo nn 3 s else .next (s.advance 3)

/-- `RST 0x00` (R414). -/
def execRst00 (s : State) : Out State := callTo 0x0000#16 1 s

/-- `RET Z` (R411). -/
def execRetZ (s : State) : Out State := if s.cond .z then returnTo s else .next (s.advance 1)

/-- `RET` (R410). -/
def execRet (s : State) : Out State := returnTo s

/-- `JP Z,nn` (R402). -/
def execJpZNn (nn : Word) (s : State) : Out State := .next (if s.cond .z then s.jump nn else s.advance 3)

/-- `CALL Z,nn` (R409). -/
def execCallZNn (nn : Word) (s : State) : Out State := if s.cond .z then callTo nn 3 s else .next (s.advance 3)

/-- `CALL nn` (R408). -/
def execCallNn (nn : Word) (s : State) : Out State := callTo nn 3 s

/-- `RST 0x08` (R414). -/
def execRst08 (s : State) : Out State := callTo 0x0008#16 1 s

/-- `RET NC` (R411). -/
def execRetNc (s : State) : Out State := if s.cond .nc then returnTo s else .next (s.advance 1)

/-- `JP NC,nn` (R402). -/
def execJpNcNn (nn : Word) (s : State) : Out State := .next (if s.cond .nc then s.jump nn else s.advance 3)

/-- `CALL NC,nn` (R409). -/
def execCallNcNn (nn : Word) (s : State) : Out State := if s.cond .nc then callTo nn 3 s else .next (s.advance 3)

/-- `RST 0x10` (R414). -/
def execRst10 (s : State) : Out State := callTo 0x0010#16 1 s

/-- `RET C` (R411). -/
def execRetC (s : State) : Out State := if s.cond .c then returnTo s else .next (s.advance 1)

/-- `JP C,nn` (R402). -/
def execJpCNn (nn : Word) (s : State) : Out State := .next (if s.cond .c then s.jump nn else s.advance 3)

/-- `CALL C,nn` (R409). -/
def execCallCNn (nn : Word) (s : State) : Out State := if s.cond .c then callTo nn 3 s else .next (s.advance 3)

/-- `RST 0x18` (R414). -/
def execRst18 (s : State) : Out State := callTo 0x0018#16 1 s

/-- `RET PO` (R411). -/
def execRetPo (s : State) : Out State := if s.cond .po then returnTo s else .next (s.advance 1)

/-- `JP PO,nn` (R402). -/
def execJpPoNn (nn : Word) (s : State) : Out State := .next (if s.cond .po then s.jump nn else s.advance 3)

/-- `CALL PO,nn` (R409). -/
def execCallPoNn (nn : Word) (s : State) : Out State := if s.cond .po then callTo nn 3 s else .next (s.advance 3)

/-- `RST 0x20` (R414). -/
def execRst20 (s : State) : Out State := callTo 0x0020#16 1 s

/-- `RET PE` (R411). -/
def execRetPe (s : State) : Out State := if s.cond .pe then returnTo s else .next (s.advance 1)

/-- `JP (HL)` (R405). -/
def execJpHl (s : State) : Out State := .next (s.jump s.hl)

/-- `JP PE,nn` (R402). -/
def execJpPeNn (nn : Word) (s : State) : Out State := .next (if s.cond .pe then s.jump nn else s.advance 3)

/-- `CALL PE,nn` (R409). -/
def execCallPeNn (nn : Word) (s : State) : Out State := if s.cond .pe then callTo nn 3 s else .next (s.advance 3)

/-- `RST 0x28` (R414). -/
def execRst28 (s : State) : Out State := callTo 0x0028#16 1 s

/-- `RET P` (R411). -/
def execRetP (s : State) : Out State := if s.cond .p then returnTo s else .next (s.advance 1)

/-- `JP P,nn` (R402). -/
def execJpPNn (nn : Word) (s : State) : Out State := .next (if s.cond .p then s.jump nn else s.advance 3)

/-- `CALL P,nn` (R409). -/
def execCallPNn (nn : Word) (s : State) : Out State := if s.cond .p then callTo nn 3 s else .next (s.advance 3)

/-- `RST 0x30` (R414). -/
def execRst30 (s : State) : Out State := callTo 0x0030#16 1 s

/-- `RET M` (R411). -/
def execRetM (s : State) : Out State := if s.cond .m then returnTo s else .next (s.advance 1)

/-- `JP M,nn` (R402). -/
def execJpMNn (nn : Word) (s : State) : Out State := .next (if s.cond .m then s.jump nn else s.advance 3)

/-- `CALL M,nn` (R409). -/
def execCallMNn (nn : Word) (s : State) : Out State := if s.cond .m then callTo nn 3 s else .next (s.advance 3)

/-- `RST 0x38` (R414). -/
def execRst38 (s : State) : Out State := callTo 0x0038#16 1 s

/-- `JP (IX)` (R406). -/
def execJpIx (s : State) : Out State := .next (s.jump (s.index .ix))

/-- `JP (IY)` (R406). -/
def execJpIy (s : State) : Out State := .next (s.jump (s.index .iy))

/-- `RETN` (R413). -/
def execRetn (s : State) : Out State := returnFromInterrupt s

/-- `RETI` (R412). -/
def execReti (s : State) : Out State := returnFromInterrupt s
end Sys2Proof.Machine
end

