-- ==== Sys2Proof/Machine/Load16.lean ====
section
/-! DEFINITION. The 16-bit load group and the stack (41_load16.md, R170 to R183): its shared operations, then one
meaning for each row of the opcode table. -/

namespace Sys2Proof.Machine

/-- `v <- MemRead(a, 2); reg16[p] <- v; PC <- next` (R172, R173). -/
def loadPair (p : Pair) (a : Word) (len : Nat) (s : State) : Out State :=
  withValue (memRead16 a s) fun v s1 => .next ((s1.setPair p v).advance len)

/-- `v <- MemRead(a, 2); XY <- v; PC <- next` (R174). -/
def loadIndex (x : Index) (a : Word) (s : State) : Out State :=
  withValue (memRead16 a s) fun v s1 => .next ((s1.setIndex x v).advance 4)

/-- `MemWrite(a, 2, v); PC <- next` (R175 to R177). -/
def storeWord (a v : Word) (len : Nat) (s : State) : Out State :=
  afterwards (memWrite16 a v s) fun s1 => .next (s1.advance len)

/-- `Push16(v); PC <- next` (R180, R181). -/
def pushWord (v : Word) (len : Nat) (s : State) : Out State :=
  afterwards (push16 v s) fun s1 => .next (s1.advance len)

/-- `v <- Pop16(); reg16af[q] <- v; PC <- next` (R182). -/
def popPair (q : StackPair) (s : State) : Out State :=
  withValue (pop16 s) fun v s1 => .next ((s1.setStackPair q v).advance 1)

/-- `v <- Pop16(); XY <- v; PC <- next` (R183). -/
def popIndex (x : Index) (s : State) : Out State :=
  withValue (pop16 s) fun v s1 => .next ((s1.setIndex x v).advance 2)

/-! ### The instructions -/

/-- `LD BC,nn` (R170). -/
def execLdBcNn (nn : Word) (s : State) : Out State := .next ((s.setPair .bc nn).advance 3)

/-- `LD DE,nn` (R170). -/
def execLdDeNn (nn : Word) (s : State) : Out State := .next ((s.setPair .de nn).advance 3)

/-- `LD HL,nn` (R170). -/
def execLdHlNn (nn : Word) (s : State) : Out State := .next ((s.setPair .hl nn).advance 3)

/-- `LD (nn),HL` (R175). -/
def execLdMemNnHl (nn : Word) (s : State) : Out State := storeWord nn s.hl 3 s

/-- `LD HL,(nn)` (R172). -/
def execLdHlMemNn (nn : Word) (s : State) : Out State := loadPair .hl nn 3 s

/-- `LD SP,nn` (R170). -/
def execLdSpNn (nn : Word) (s : State) : Out State := .next ((s.setPair .sp nn).advance 3)

/-- `POP BC` (R182). -/
def execPopBc (s : State) : Out State := popPair .bc s

/-- `PUSH BC` (R180). -/
def execPushBc (s : State) : Out State := pushWord (s.stackPair .bc) 1 s

/-- `POP DE` (R182). -/
def execPopDe (s : State) : Out State := popPair .de s

/-- `PUSH DE` (R180). -/
def execPushDe (s : State) : Out State := pushWord (s.stackPair .de) 1 s

/-- `POP HL` (R182). -/
def execPopHl (s : State) : Out State := popPair .hl s

/-- `PUSH HL` (R180). -/
def execPushHl (s : State) : Out State := pushWord (s.stackPair .hl) 1 s

/-- `POP AF` (R182). -/
def execPopAf (s : State) : Out State := popPair .af s

/-- `PUSH AF` (R180). -/
def execPushAf (s : State) : Out State := pushWord (s.stackPair .af) 1 s

/-- `LD SP,HL` (R178). -/
def execLdSpHl (s : State) : Out State := .next ((s.setSp s.hl).advance 1)

/-- `LD IX,nn` (R171). -/
def execLdIxNn (nn : Word) (s : State) : Out State := .next ((s.setIndex .ix nn).advance 4)

/-- `LD (nn),IX` (R177). -/
def execLdMemNnIx (nn : Word) (s : State) : Out State := storeWord nn (s.index .ix) 4 s

/-- `LD IX,(nn)` (R174). -/
def execLdIxMemNn (nn : Word) (s : State) : Out State := loadIndex .ix nn s

/-- `POP IX` (R183). -/
def execPopIx (s : State) : Out State := popIndex .ix s

/-- `PUSH IX` (R181). -/
def execPushIx (s : State) : Out State := pushWord (s.index .ix) 2 s

/-- `LD SP,IX` (R179). -/
def execLdSpIx (s : State) : Out State := .next ((s.setSp (s.index .ix)).advance 2)

/-- `LD IY,nn` (R171). -/
def execLdIyNn (nn : Word) (s : State) : Out State := .next ((s.setIndex .iy nn).advance 4)

/-- `LD (nn),IY` (R177). -/
def execLdMemNnIy (nn : Word) (s : State) : Out State := storeWord nn (s.index .iy) 4 s

/-- `LD IY,(nn)` (R174). -/
def execLdIyMemNn (nn : Word) (s : State) : Out State := loadIndex .iy nn s

/-- `POP IY` (R183). -/
def execPopIy (s : State) : Out State := popIndex .iy s

/-- `PUSH IY` (R181). -/
def execPushIy (s : State) : Out State := pushWord (s.index .iy) 2 s

/-- `LD SP,IY` (R179). -/
def execLdSpIy (s : State) : Out State := .next ((s.setSp (s.index .iy)).advance 2)

/-- `LD (nn),BC` (R176). -/
def execLdMemNnBc (nn : Word) (s : State) : Out State := storeWord nn (s.pair .bc) 4 s

/-- `LD BC,(nn)` (R173). -/
def execLdBcMemNn (nn : Word) (s : State) : Out State := loadPair .bc nn 4 s

/-- `LD (nn),DE` (R176). -/
def execLdMemNnDe (nn : Word) (s : State) : Out State := storeWord nn (s.pair .de) 4 s

/-- `LD DE,(nn)` (R173). -/
def execLdDeMemNn (nn : Word) (s : State) : Out State := loadPair .de nn 4 s

/-- `LD (nn),HL` (R176). -/
def execLdMemNnHlEd (nn : Word) (s : State) : Out State := storeWord nn s.hl 4 s

/-- `LD HL,(nn)` (R173). -/
def execLdHlMemNnEd (nn : Word) (s : State) : Out State := loadPair .hl nn 4 s

/-- `LD (nn),SP` (R176). -/
def execLdMemNnSp (nn : Word) (s : State) : Out State := storeWord nn (s.pair .sp) 4 s

/-- `LD SP,(nn)` (R173). -/
def execLdSpMemNn (nn : Word) (s : State) : Out State := loadPair .sp nn 4 s
end Sys2Proof.Machine
end

