-- ==== Sys2Proof/Machine/Load8.lean ====
section
/-! DEFINITION. The 8-bit load group (40_load8.md, R140 to R157): its shared operations, then one meaning for each
row of the opcode table. -/

namespace Sys2Proof.Machine

/-- `reg8[r] <- MemRead(a, 1); PC <- next` (R142, R143, R148 to R150). -/
def loadReg (r : Reg8) (a : Word) (len : Nat) (s : State) : Out State :=
  withValue (memRead a s) fun v s1 => .next ((s1.setReg8 r v).advance len)

/-- `MemWrite(a, 1, v); PC <- next` (R144 to R147, R151 to R153). -/
def storeByte (a : Word) (v : Byte) (len : Nat) (s : State) : Out State :=
  afterwards (memWrite a v s) fun s1 => .next (s1.advance len)

/-- The flags of LD A,I and LD A,R: S and Z from the value, H and N clear, P/V = IFF2, C unchanged (R154, R155). -/
def loadAFlags (v : Byte) (iff2 : Bool) : FlagSet :=
  { s := some (v.getLsbD 7), z := some (decide (v = 0)), h := some false, pv := some iff2, n := some false, c := none }

/-- `A <- v`, the flags, `PC <- next` (R154, R155). -/
def loadAFrom (v : Byte) (s : State) : Out State :=
  .next (((s.setReg8 .a v).setF (loadAFlags v s.iff2)).advance 2)

/-! ### The instructions -/

/-- `LD (BC),A` (R151). -/
def execLdMemBcA (s : State) : Out State := storeByte s.bc s.main.a 1 s

/-- `LD B,n` (R141). -/
def execLdBN (n : Byte) (s : State) : Out State := .next ((s.setReg8 .b n).advance 2)

/-- `LD A,(BC)` (R148). -/
def execLdAMemBc (s : State) : Out State := loadReg .a s.bc 1 s

/-- `LD C,n` (R141). -/
def execLdCN (n : Byte) (s : State) : Out State := .next ((s.setReg8 .c n).advance 2)

/-- `LD (DE),A` (R152). -/
def execLdMemDeA (s : State) : Out State := storeByte s.de s.main.a 1 s

/-- `LD D,n` (R141). -/
def execLdDN (n : Byte) (s : State) : Out State := .next ((s.setReg8 .d n).advance 2)

/-- `LD A,(DE)` (R149). -/
def execLdAMemDe (s : State) : Out State := loadReg .a s.de 1 s

/-- `LD E,n` (R141). -/
def execLdEN (n : Byte) (s : State) : Out State := .next ((s.setReg8 .e n).advance 2)

/-- `LD H,n` (R141). -/
def execLdHN (n : Byte) (s : State) : Out State := .next ((s.setReg8 .h n).advance 2)

/-- `LD L,n` (R141). -/
def execLdLN (n : Byte) (s : State) : Out State := .next ((s.setReg8 .l n).advance 2)

/-- `LD (nn),A` (R153). -/
def execLdMemNnA (nn : Word) (s : State) : Out State := storeByte nn s.main.a 3 s

/-- `LD (HL),n` (R146). -/
def execLdMemHlN (n : Byte) (s : State) : Out State := storeByte s.hl n 2 s

/-- `LD A,(nn)` (R150). -/
def execLdAMemNn (nn : Word) (s : State) : Out State := loadReg .a nn 3 s

/-- `LD A,n` (R141). -/
def execLdAN (n : Byte) (s : State) : Out State := .next ((s.setReg8 .a n).advance 2)

/-- `LD B,B` (R140). -/
def execLdBB (s : State) : Out State := .next ((s.setReg8 .b (s.reg8 .b)).advance 1)

/-- `LD B,C` (R140). -/
def execLdBC (s : State) : Out State := .next ((s.setReg8 .b (s.reg8 .c)).advance 1)

/-- `LD B,D` (R140). -/
def execLdBD (s : State) : Out State := .next ((s.setReg8 .b (s.reg8 .d)).advance 1)

/-- `LD B,E` (R140). -/
def execLdBE (s : State) : Out State := .next ((s.setReg8 .b (s.reg8 .e)).advance 1)

/-- `LD B,H` (R140). -/
def execLdBH (s : State) : Out State := .next ((s.setReg8 .b (s.reg8 .h)).advance 1)

/-- `LD B,L` (R140). -/
def execLdBL (s : State) : Out State := .next ((s.setReg8 .b (s.reg8 .l)).advance 1)

/-- `LD B,(HL)` (R142). -/
def execLdBMemHl (s : State) : Out State := loadReg .b s.hl 1 s

/-- `LD B,A` (R140). -/
def execLdBA (s : State) : Out State := .next ((s.setReg8 .b (s.reg8 .a)).advance 1)

/-- `LD C,B` (R140). -/
def execLdCB (s : State) : Out State := .next ((s.setReg8 .c (s.reg8 .b)).advance 1)

/-- `LD C,C` (R140). -/
def execLdCC (s : State) : Out State := .next ((s.setReg8 .c (s.reg8 .c)).advance 1)

/-- `LD C,D` (R140). -/
def execLdCD (s : State) : Out State := .next ((s.setReg8 .c (s.reg8 .d)).advance 1)

/-- `LD C,E` (R140). -/
def execLdCE (s : State) : Out State := .next ((s.setReg8 .c (s.reg8 .e)).advance 1)

/-- `LD C,H` (R140). -/
def execLdCH (s : State) : Out State := .next ((s.setReg8 .c (s.reg8 .h)).advance 1)

/-- `LD C,L` (R140). -/
def execLdCL (s : State) : Out State := .next ((s.setReg8 .c (s.reg8 .l)).advance 1)

/-- `LD C,(HL)` (R142). -/
def execLdCMemHl (s : State) : Out State := loadReg .c s.hl 1 s

/-- `LD C,A` (R140). -/
def execLdCA (s : State) : Out State := .next ((s.setReg8 .c (s.reg8 .a)).advance 1)

/-- `LD D,B` (R140). -/
def execLdDB (s : State) : Out State := .next ((s.setReg8 .d (s.reg8 .b)).advance 1)

/-- `LD D,C` (R140). -/
def execLdDC (s : State) : Out State := .next ((s.setReg8 .d (s.reg8 .c)).advance 1)

/-- `LD D,D` (R140). -/
def execLdDD (s : State) : Out State := .next ((s.setReg8 .d (s.reg8 .d)).advance 1)

/-- `LD D,E` (R140). -/
def execLdDE (s : State) : Out State := .next ((s.setReg8 .d (s.reg8 .e)).advance 1)

/-- `LD D,H` (R140). -/
def execLdDH (s : State) : Out State := .next ((s.setReg8 .d (s.reg8 .h)).advance 1)

/-- `LD D,L` (R140). -/
def execLdDL (s : State) : Out State := .next ((s.setReg8 .d (s.reg8 .l)).advance 1)

/-- `LD D,(HL)` (R142). -/
def execLdDMemHl (s : State) : Out State := loadReg .d s.hl 1 s

/-- `LD D,A` (R140). -/
def execLdDA (s : State) : Out State := .next ((s.setReg8 .d (s.reg8 .a)).advance 1)

/-- `LD E,B` (R140). -/
def execLdEB (s : State) : Out State := .next ((s.setReg8 .e (s.reg8 .b)).advance 1)

/-- `LD E,C` (R140). -/
def execLdEC (s : State) : Out State := .next ((s.setReg8 .e (s.reg8 .c)).advance 1)

/-- `LD E,D` (R140). -/
def execLdED (s : State) : Out State := .next ((s.setReg8 .e (s.reg8 .d)).advance 1)

/-- `LD E,E` (R140). -/
def execLdEE (s : State) : Out State := .next ((s.setReg8 .e (s.reg8 .e)).advance 1)

/-- `LD E,H` (R140). -/
def execLdEH (s : State) : Out State := .next ((s.setReg8 .e (s.reg8 .h)).advance 1)

/-- `LD E,L` (R140). -/
def execLdEL (s : State) : Out State := .next ((s.setReg8 .e (s.reg8 .l)).advance 1)

/-- `LD E,(HL)` (R142). -/
def execLdEMemHl (s : State) : Out State := loadReg .e s.hl 1 s

/-- `LD E,A` (R140). -/
def execLdEA (s : State) : Out State := .next ((s.setReg8 .e (s.reg8 .a)).advance 1)

/-- `LD H,B` (R140). -/
def execLdHB (s : State) : Out State := .next ((s.setReg8 .h (s.reg8 .b)).advance 1)

/-- `LD H,C` (R140). -/
def execLdHC (s : State) : Out State := .next ((s.setReg8 .h (s.reg8 .c)).advance 1)

/-- `LD H,D` (R140). -/
def execLdHD (s : State) : Out State := .next ((s.setReg8 .h (s.reg8 .d)).advance 1)

/-- `LD H,E` (R140). -/
def execLdHE (s : State) : Out State := .next ((s.setReg8 .h (s.reg8 .e)).advance 1)

/-- `LD H,H` (R140). -/
def execLdHH (s : State) : Out State := .next ((s.setReg8 .h (s.reg8 .h)).advance 1)

/-- `LD H,L` (R140). -/
def execLdHL (s : State) : Out State := .next ((s.setReg8 .h (s.reg8 .l)).advance 1)

/-- `LD H,(HL)` (R142). -/
def execLdHMemHl (s : State) : Out State := loadReg .h s.hl 1 s

/-- `LD H,A` (R140). -/
def execLdHA (s : State) : Out State := .next ((s.setReg8 .h (s.reg8 .a)).advance 1)

/-- `LD L,B` (R140). -/
def execLdLB (s : State) : Out State := .next ((s.setReg8 .l (s.reg8 .b)).advance 1)

/-- `LD L,C` (R140). -/
def execLdLC (s : State) : Out State := .next ((s.setReg8 .l (s.reg8 .c)).advance 1)

/-- `LD L,D` (R140). -/
def execLdLD (s : State) : Out State := .next ((s.setReg8 .l (s.reg8 .d)).advance 1)

/-- `LD L,E` (R140). -/
def execLdLE (s : State) : Out State := .next ((s.setReg8 .l (s.reg8 .e)).advance 1)

/-- `LD L,H` (R140). -/
def execLdLH (s : State) : Out State := .next ((s.setReg8 .l (s.reg8 .h)).advance 1)

/-- `LD L,L` (R140). -/
def execLdLL (s : State) : Out State := .next ((s.setReg8 .l (s.reg8 .l)).advance 1)

/-- `LD L,(HL)` (R142). -/
def execLdLMemHl (s : State) : Out State := loadReg .l s.hl 1 s

/-- `LD L,A` (R140). -/
def execLdLA (s : State) : Out State := .next ((s.setReg8 .l (s.reg8 .a)).advance 1)

/-- `LD (HL),B` (R144). -/
def execLdMemHlB (s : State) : Out State := storeByte s.hl (s.reg8 .b) 1 s

/-- `LD (HL),C` (R144). -/
def execLdMemHlC (s : State) : Out State := storeByte s.hl (s.reg8 .c) 1 s

/-- `LD (HL),D` (R144). -/
def execLdMemHlD (s : State) : Out State := storeByte s.hl (s.reg8 .d) 1 s

/-- `LD (HL),E` (R144). -/
def execLdMemHlE (s : State) : Out State := storeByte s.hl (s.reg8 .e) 1 s

/-- `LD (HL),H` (R144). -/
def execLdMemHlH (s : State) : Out State := storeByte s.hl (s.reg8 .h) 1 s

/-- `LD (HL),L` (R144). -/
def execLdMemHlL (s : State) : Out State := storeByte s.hl (s.reg8 .l) 1 s

/-- `LD (HL),A` (R144). -/
def execLdMemHlA (s : State) : Out State := storeByte s.hl (s.reg8 .a) 1 s

/-- `LD A,B` (R140). -/
def execLdAB (s : State) : Out State := .next ((s.setReg8 .a (s.reg8 .b)).advance 1)

/-- `LD A,C` (R140). -/
def execLdAC (s : State) : Out State := .next ((s.setReg8 .a (s.reg8 .c)).advance 1)

/-- `LD A,D` (R140). -/
def execLdAD (s : State) : Out State := .next ((s.setReg8 .a (s.reg8 .d)).advance 1)

/-- `LD A,E` (R140). -/
def execLdAE (s : State) : Out State := .next ((s.setReg8 .a (s.reg8 .e)).advance 1)

/-- `LD A,H` (R140). -/
def execLdAH (s : State) : Out State := .next ((s.setReg8 .a (s.reg8 .h)).advance 1)

/-- `LD A,L` (R140). -/
def execLdAL (s : State) : Out State := .next ((s.setReg8 .a (s.reg8 .l)).advance 1)

/-- `LD A,(HL)` (R142). -/
def execLdAMemHl (s : State) : Out State := loadReg .a s.hl 1 s

/-- `LD A,A` (R140). -/
def execLdAA (s : State) : Out State := .next ((s.setReg8 .a (s.reg8 .a)).advance 1)

/-- `LD (IX+d),n` (R147). -/
def execLdMemIxN (d : Int) (n : Byte) (s : State) : Out State := storeByte (s.ea .ix d) n 4 s

/-- `LD B,(IX+d)` (R143). -/
def execLdBMemIx (d : Int) (s : State) : Out State := loadReg .b (s.ea .ix d) 3 s

/-- `LD C,(IX+d)` (R143). -/
def execLdCMemIx (d : Int) (s : State) : Out State := loadReg .c (s.ea .ix d) 3 s

/-- `LD D,(IX+d)` (R143). -/
def execLdDMemIx (d : Int) (s : State) : Out State := loadReg .d (s.ea .ix d) 3 s

/-- `LD E,(IX+d)` (R143). -/
def execLdEMemIx (d : Int) (s : State) : Out State := loadReg .e (s.ea .ix d) 3 s

/-- `LD H,(IX+d)` (R143). -/
def execLdHMemIx (d : Int) (s : State) : Out State := loadReg .h (s.ea .ix d) 3 s

/-- `LD L,(IX+d)` (R143). -/
def execLdLMemIx (d : Int) (s : State) : Out State := loadReg .l (s.ea .ix d) 3 s

/-- `LD A,(IX+d)` (R143). -/
def execLdAMemIx (d : Int) (s : State) : Out State := loadReg .a (s.ea .ix d) 3 s

/-- `LD (IX+d),B` (R145). -/
def execLdMemIxB (d : Int) (s : State) : Out State := storeByte (s.ea .ix d) (s.reg8 .b) 3 s

/-- `LD (IX+d),C` (R145). -/
def execLdMemIxC (d : Int) (s : State) : Out State := storeByte (s.ea .ix d) (s.reg8 .c) 3 s

/-- `LD (IX+d),D` (R145). -/
def execLdMemIxD (d : Int) (s : State) : Out State := storeByte (s.ea .ix d) (s.reg8 .d) 3 s

/-- `LD (IX+d),E` (R145). -/
def execLdMemIxE (d : Int) (s : State) : Out State := storeByte (s.ea .ix d) (s.reg8 .e) 3 s

/-- `LD (IX+d),H` (R145). -/
def execLdMemIxH (d : Int) (s : State) : Out State := storeByte (s.ea .ix d) (s.reg8 .h) 3 s

/-- `LD (IX+d),L` (R145). -/
def execLdMemIxL (d : Int) (s : State) : Out State := storeByte (s.ea .ix d) (s.reg8 .l) 3 s

/-- `LD (IX+d),A` (R145). -/
def execLdMemIxA (d : Int) (s : State) : Out State := storeByte (s.ea .ix d) (s.reg8 .a) 3 s

/-- `LD (IY+d),n` (R147). -/
def execLdMemIyN (d : Int) (n : Byte) (s : State) : Out State := storeByte (s.ea .iy d) n 4 s

/-- `LD B,(IY+d)` (R143). -/
def execLdBMemIy (d : Int) (s : State) : Out State := loadReg .b (s.ea .iy d) 3 s

/-- `LD C,(IY+d)` (R143). -/
def execLdCMemIy (d : Int) (s : State) : Out State := loadReg .c (s.ea .iy d) 3 s

/-- `LD D,(IY+d)` (R143). -/
def execLdDMemIy (d : Int) (s : State) : Out State := loadReg .d (s.ea .iy d) 3 s

/-- `LD E,(IY+d)` (R143). -/
def execLdEMemIy (d : Int) (s : State) : Out State := loadReg .e (s.ea .iy d) 3 s

/-- `LD H,(IY+d)` (R143). -/
def execLdHMemIy (d : Int) (s : State) : Out State := loadReg .h (s.ea .iy d) 3 s

/-- `LD L,(IY+d)` (R143). -/
def execLdLMemIy (d : Int) (s : State) : Out State := loadReg .l (s.ea .iy d) 3 s

/-- `LD A,(IY+d)` (R143). -/
def execLdAMemIy (d : Int) (s : State) : Out State := loadReg .a (s.ea .iy d) 3 s

/-- `LD (IY+d),B` (R145). -/
def execLdMemIyB (d : Int) (s : State) : Out State := storeByte (s.ea .iy d) (s.reg8 .b) 3 s

/-- `LD (IY+d),C` (R145). -/
def execLdMemIyC (d : Int) (s : State) : Out State := storeByte (s.ea .iy d) (s.reg8 .c) 3 s

/-- `LD (IY+d),D` (R145). -/
def execLdMemIyD (d : Int) (s : State) : Out State := storeByte (s.ea .iy d) (s.reg8 .d) 3 s

/-- `LD (IY+d),E` (R145). -/
def execLdMemIyE (d : Int) (s : State) : Out State := storeByte (s.ea .iy d) (s.reg8 .e) 3 s

/-- `LD (IY+d),H` (R145). -/
def execLdMemIyH (d : Int) (s : State) : Out State := storeByte (s.ea .iy d) (s.reg8 .h) 3 s

/-- `LD (IY+d),L` (R145). -/
def execLdMemIyL (d : Int) (s : State) : Out State := storeByte (s.ea .iy d) (s.reg8 .l) 3 s

/-- `LD (IY+d),A` (R145). -/
def execLdMemIyA (d : Int) (s : State) : Out State := storeByte (s.ea .iy d) (s.reg8 .a) 3 s

/-- `LD I,A` (R156). -/
def execLdIA (s : State) : Out State := .next ({ s with i := s.main.a }.advance 2)

/-- `LD R,A` (R157). -/
def execLdRA (s : State) : Out State := .next ({ s with r := s.main.a }.advance 2)

/-- `LD A,I` (R154). -/
def execLdAI (s : State) : Out State := loadAFrom s.i s

/-- `LD A,R` (R155). -/
def execLdAR (s : State) : Out State := loadAFrom s.r s
end Sys2Proof.Machine
end

