-- ==== Sys2Proof/Machine/Shift.lean ====
section
/-! DEFINITION. The rotate and shift group (46_rotate_shift.md, R342 to R368): its shared operations, then one meaning
for each row of the opcode table. -/

namespace Sys2Proof.Machine

/-- An accumulator rotate (R342 to R345). -/
def rotateA (op : ShiftOp) (s : State) : Out State :=
  .next (((s.setReg8 .a (op.shift s.main.a s.main.f.c).1).setF
    (accumulatorFlags (op.shift s.main.a s.main.f.c).2)).advance 1)

/-- RLD on A and the byte at HL: the new A and the byte to write (R367, UNVERIFIED direction, log entry 17). -/
def rldDigits (a t : Byte) : Byte × Byte :=
  (BitVec.ofNat 8 (16 * (a.toNat / 16) + t.toNat / 16), BitVec.ofNat 8 (16 * (t.toNat % 16) + a.toNat % 16))

/-- RRD on A and the byte at HL: the new A and the byte to write (R368, UNVERIFIED direction, log entry 17). -/
def rrdDigits (a t : Byte) : Byte × Byte :=
  (BitVec.ofNat 8 (16 * (a.toNat / 16) + t.toNat % 16), BitVec.ofNat 8 (16 * (a.toNat % 16) + t.toNat / 16))

/-- RLD or RRD: read the byte at HL, write its new value, then A and the flags (R367, R368). -/
def rotateDigits (f : Byte → Byte → Byte × Byte) (s : State) : Out State :=
  withValue (memRead s.hl s) fun t s1 =>
    afterwards (memWrite s1.hl (f s1.main.a t).2 s1) fun s2 =>
      .next (((s2.setReg8 .a (f s2.main.a t).1).setF (resultFlags (f s2.main.a t).1 none)).advance 2)

/-! ### The instructions -/

/-- `RLCA` (R342). -/
def execRlca (s : State) : Out State := rotateA .rlc s

/-- `RRCA` (R344). -/
def execRrca (s : State) : Out State := rotateA .rrc s

/-- `RLA` (R343). -/
def execRla (s : State) : Out State := rotateA .rl s

/-- `RRA` (R345). -/
def execRra (s : State) : Out State := rotateA .rr s

/-- `RLC B` (R346). -/
def execRlcB (s : State) : Out State := updateReg (fun v => ShiftOp.compute .rlc v s.main.f.c) .b 2 s

/-- `RLC C` (R346). -/
def execRlcC (s : State) : Out State := updateReg (fun v => ShiftOp.compute .rlc v s.main.f.c) .c 2 s

/-- `RLC D` (R346). -/
def execRlcD (s : State) : Out State := updateReg (fun v => ShiftOp.compute .rlc v s.main.f.c) .d 2 s

/-- `RLC E` (R346). -/
def execRlcE (s : State) : Out State := updateReg (fun v => ShiftOp.compute .rlc v s.main.f.c) .e 2 s

/-- `RLC H` (R346). -/
def execRlcH (s : State) : Out State := updateReg (fun v => ShiftOp.compute .rlc v s.main.f.c) .h 2 s

/-- `RLC L` (R346). -/
def execRlcL (s : State) : Out State := updateReg (fun v => ShiftOp.compute .rlc v s.main.f.c) .l 2 s

/-- `RLC (HL)` (R347). -/
def execRlcMemHl (s : State) : Out State := updateByte (fun v => ShiftOp.compute .rlc v s.main.f.c) s.hl 2 s

/-- `RLC A` (R346). -/
def execRlcA (s : State) : Out State := updateReg (fun v => ShiftOp.compute .rlc v s.main.f.c) .a 2 s

/-- `RRC B` (R349). -/
def execRrcB (s : State) : Out State := updateReg (fun v => ShiftOp.compute .rrc v s.main.f.c) .b 2 s

/-- `RRC C` (R349). -/
def execRrcC (s : State) : Out State := updateReg (fun v => ShiftOp.compute .rrc v s.main.f.c) .c 2 s

/-- `RRC D` (R349). -/
def execRrcD (s : State) : Out State := updateReg (fun v => ShiftOp.compute .rrc v s.main.f.c) .d 2 s

/-- `RRC E` (R349). -/
def execRrcE (s : State) : Out State := updateReg (fun v => ShiftOp.compute .rrc v s.main.f.c) .e 2 s

/-- `RRC H` (R349). -/
def execRrcH (s : State) : Out State := updateReg (fun v => ShiftOp.compute .rrc v s.main.f.c) .h 2 s

/-- `RRC L` (R349). -/
def execRrcL (s : State) : Out State := updateReg (fun v => ShiftOp.compute .rrc v s.main.f.c) .l 2 s

/-- `RRC (HL)` (R350). -/
def execRrcMemHl (s : State) : Out State := updateByte (fun v => ShiftOp.compute .rrc v s.main.f.c) s.hl 2 s

/-- `RRC A` (R349). -/
def execRrcA (s : State) : Out State := updateReg (fun v => ShiftOp.compute .rrc v s.main.f.c) .a 2 s

/-- `RL B` (R352). -/
def execRlB (s : State) : Out State := updateReg (fun v => ShiftOp.compute .rl v s.main.f.c) .b 2 s

/-- `RL C` (R352). -/
def execRlC (s : State) : Out State := updateReg (fun v => ShiftOp.compute .rl v s.main.f.c) .c 2 s

/-- `RL D` (R352). -/
def execRlD (s : State) : Out State := updateReg (fun v => ShiftOp.compute .rl v s.main.f.c) .d 2 s

/-- `RL E` (R352). -/
def execRlE (s : State) : Out State := updateReg (fun v => ShiftOp.compute .rl v s.main.f.c) .e 2 s

/-- `RL H` (R352). -/
def execRlH (s : State) : Out State := updateReg (fun v => ShiftOp.compute .rl v s.main.f.c) .h 2 s

/-- `RL L` (R352). -/
def execRlL (s : State) : Out State := updateReg (fun v => ShiftOp.compute .rl v s.main.f.c) .l 2 s

/-- `RL (HL)` (R353). -/
def execRlMemHl (s : State) : Out State := updateByte (fun v => ShiftOp.compute .rl v s.main.f.c) s.hl 2 s

/-- `RL A` (R352). -/
def execRlA (s : State) : Out State := updateReg (fun v => ShiftOp.compute .rl v s.main.f.c) .a 2 s

/-- `RR B` (R355). -/
def execRrB (s : State) : Out State := updateReg (fun v => ShiftOp.compute .rr v s.main.f.c) .b 2 s

/-- `RR C` (R355). -/
def execRrC (s : State) : Out State := updateReg (fun v => ShiftOp.compute .rr v s.main.f.c) .c 2 s

/-- `RR D` (R355). -/
def execRrD (s : State) : Out State := updateReg (fun v => ShiftOp.compute .rr v s.main.f.c) .d 2 s

/-- `RR E` (R355). -/
def execRrE (s : State) : Out State := updateReg (fun v => ShiftOp.compute .rr v s.main.f.c) .e 2 s

/-- `RR H` (R355). -/
def execRrH (s : State) : Out State := updateReg (fun v => ShiftOp.compute .rr v s.main.f.c) .h 2 s

/-- `RR L` (R355). -/
def execRrL (s : State) : Out State := updateReg (fun v => ShiftOp.compute .rr v s.main.f.c) .l 2 s

/-- `RR (HL)` (R356). -/
def execRrMemHl (s : State) : Out State := updateByte (fun v => ShiftOp.compute .rr v s.main.f.c) s.hl 2 s

/-- `RR A` (R355). -/
def execRrA (s : State) : Out State := updateReg (fun v => ShiftOp.compute .rr v s.main.f.c) .a 2 s

/-- `SLA B` (R358). -/
def execSlaB (s : State) : Out State := updateReg (fun v => ShiftOp.compute .sla v s.main.f.c) .b 2 s

/-- `SLA C` (R358). -/
def execSlaC (s : State) : Out State := updateReg (fun v => ShiftOp.compute .sla v s.main.f.c) .c 2 s

/-- `SLA D` (R358). -/
def execSlaD (s : State) : Out State := updateReg (fun v => ShiftOp.compute .sla v s.main.f.c) .d 2 s

/-- `SLA E` (R358). -/
def execSlaE (s : State) : Out State := updateReg (fun v => ShiftOp.compute .sla v s.main.f.c) .e 2 s

/-- `SLA H` (R358). -/
def execSlaH (s : State) : Out State := updateReg (fun v => ShiftOp.compute .sla v s.main.f.c) .h 2 s

/-- `SLA L` (R358). -/
def execSlaL (s : State) : Out State := updateReg (fun v => ShiftOp.compute .sla v s.main.f.c) .l 2 s

/-- `SLA (HL)` (R359). -/
def execSlaMemHl (s : State) : Out State := updateByte (fun v => ShiftOp.compute .sla v s.main.f.c) s.hl 2 s

/-- `SLA A` (R358). -/
def execSlaA (s : State) : Out State := updateReg (fun v => ShiftOp.compute .sla v s.main.f.c) .a 2 s

/-- `SRA B` (R361). -/
def execSraB (s : State) : Out State := updateReg (fun v => ShiftOp.compute .sra v s.main.f.c) .b 2 s

/-- `SRA C` (R361). -/
def execSraC (s : State) : Out State := updateReg (fun v => ShiftOp.compute .sra v s.main.f.c) .c 2 s

/-- `SRA D` (R361). -/
def execSraD (s : State) : Out State := updateReg (fun v => ShiftOp.compute .sra v s.main.f.c) .d 2 s

/-- `SRA E` (R361). -/
def execSraE (s : State) : Out State := updateReg (fun v => ShiftOp.compute .sra v s.main.f.c) .e 2 s

/-- `SRA H` (R361). -/
def execSraH (s : State) : Out State := updateReg (fun v => ShiftOp.compute .sra v s.main.f.c) .h 2 s

/-- `SRA L` (R361). -/
def execSraL (s : State) : Out State := updateReg (fun v => ShiftOp.compute .sra v s.main.f.c) .l 2 s

/-- `SRA (HL)` (R362). -/
def execSraMemHl (s : State) : Out State := updateByte (fun v => ShiftOp.compute .sra v s.main.f.c) s.hl 2 s

/-- `SRA A` (R361). -/
def execSraA (s : State) : Out State := updateReg (fun v => ShiftOp.compute .sra v s.main.f.c) .a 2 s

/-- `SRL B` (R364). -/
def execSrlB (s : State) : Out State := updateReg (fun v => ShiftOp.compute .srl v s.main.f.c) .b 2 s

/-- `SRL C` (R364). -/
def execSrlC (s : State) : Out State := updateReg (fun v => ShiftOp.compute .srl v s.main.f.c) .c 2 s

/-- `SRL D` (R364). -/
def execSrlD (s : State) : Out State := updateReg (fun v => ShiftOp.compute .srl v s.main.f.c) .d 2 s

/-- `SRL E` (R364). -/
def execSrlE (s : State) : Out State := updateReg (fun v => ShiftOp.compute .srl v s.main.f.c) .e 2 s

/-- `SRL H` (R364). -/
def execSrlH (s : State) : Out State := updateReg (fun v => ShiftOp.compute .srl v s.main.f.c) .h 2 s

/-- `SRL L` (R364). -/
def execSrlL (s : State) : Out State := updateReg (fun v => ShiftOp.compute .srl v s.main.f.c) .l 2 s

/-- `SRL (HL)` (R365). -/
def execSrlMemHl (s : State) : Out State := updateByte (fun v => ShiftOp.compute .srl v s.main.f.c) s.hl 2 s

/-- `SRL A` (R364). -/
def execSrlA (s : State) : Out State := updateReg (fun v => ShiftOp.compute .srl v s.main.f.c) .a 2 s

/-- `RLC (IX+d)` (R348). -/
def execRlcMemIx (d : Int) (s : State) : Out State :=
  updateByte (fun v => ShiftOp.compute .rlc v s.main.f.c) (s.ea .ix d) 4 s

/-- `RRC (IX+d)` (R351). -/
def execRrcMemIx (d : Int) (s : State) : Out State :=
  updateByte (fun v => ShiftOp.compute .rrc v s.main.f.c) (s.ea .ix d) 4 s

/-- `RL (IX+d)` (R354). -/
def execRlMemIx (d : Int) (s : State) : Out State :=
  updateByte (fun v => ShiftOp.compute .rl v s.main.f.c) (s.ea .ix d) 4 s

/-- `RR (IX+d)` (R357). -/
def execRrMemIx (d : Int) (s : State) : Out State :=
  updateByte (fun v => ShiftOp.compute .rr v s.main.f.c) (s.ea .ix d) 4 s

/-- `SLA (IX+d)` (R360). -/
def execSlaMemIx (d : Int) (s : State) : Out State :=
  updateByte (fun v => ShiftOp.compute .sla v s.main.f.c) (s.ea .ix d) 4 s

/-- `SRA (IX+d)` (R363). -/
def execSraMemIx (d : Int) (s : State) : Out State :=
  updateByte (fun v => ShiftOp.compute .sra v s.main.f.c) (s.ea .ix d) 4 s

/-- `SRL (IX+d)` (R366). -/
def execSrlMemIx (d : Int) (s : State) : Out State :=
  updateByte (fun v => ShiftOp.compute .srl v s.main.f.c) (s.ea .ix d) 4 s

/-- `RLC (IY+d)` (R348). -/
def execRlcMemIy (d : Int) (s : State) : Out State :=
  updateByte (fun v => ShiftOp.compute .rlc v s.main.f.c) (s.ea .iy d) 4 s

/-- `RRC (IY+d)` (R351). -/
def execRrcMemIy (d : Int) (s : State) : Out State :=
  updateByte (fun v => ShiftOp.compute .rrc v s.main.f.c) (s.ea .iy d) 4 s

/-- `RL (IY+d)` (R354). -/
def execRlMemIy (d : Int) (s : State) : Out State :=
  updateByte (fun v => ShiftOp.compute .rl v s.main.f.c) (s.ea .iy d) 4 s

/-- `RR (IY+d)` (R357). -/
def execRrMemIy (d : Int) (s : State) : Out State :=
  updateByte (fun v => ShiftOp.compute .rr v s.main.f.c) (s.ea .iy d) 4 s

/-- `SLA (IY+d)` (R360). -/
def execSlaMemIy (d : Int) (s : State) : Out State :=
  updateByte (fun v => ShiftOp.compute .sla v s.main.f.c) (s.ea .iy d) 4 s

/-- `SRA (IY+d)` (R363). -/
def execSraMemIy (d : Int) (s : State) : Out State :=
  updateByte (fun v => ShiftOp.compute .sra v s.main.f.c) (s.ea .iy d) 4 s

/-- `SRL (IY+d)` (R366). -/
def execSrlMemIy (d : Int) (s : State) : Out State :=
  updateByte (fun v => ShiftOp.compute .srl v s.main.f.c) (s.ea .iy d) 4 s

/-- `RRD` (R368). -/
def execRrd (s : State) : Out State := rotateDigits rrdDigits s

/-- `RLD` (R367). -/
def execRld (s : State) : Out State := rotateDigits rldDigits s
end Sys2Proof.Machine
end

