-- ==== Sys2Proof/Machine/Fetch.lean ====
section
/-! DEFINITION. Fetching the bytes of one instruction and decoding them (R81, R101, R120, R121), and what an engine
call does while halted (R49). -/

namespace Sys2Proof.Machine

/-- Fetch bytes in increasing address order, modulo 2^16, until those fetched make up an instruction or are rejected;
no byte after that is fetched (R81, R101, R121, R503). `bytes` are those fetched so far and `fuel` bounds how many
more may be: an instruction has at most 4 (R100), so the answer for no fuel is never given from `fetch`. -/
def fetchFrom : Nat → List Byte → State → Out ((Instr × List Byte) × State)
  | 0, bytes, s => .fault (.invalidOpcode bytes s.pc s.bus)
  | fuel + 1, bytes, s =>
    match decode bytes with
    | .done i _ => .next ((i, bytes), s)
    | .invalidOpcode bs => .fault (.invalidOpcode bs s.pc s.bus)
    | .more =>
      withValue (memRead (s.pc + BitVec.ofNat 16 bytes.length) s) fun b s1 => fetchFrom fuel (bytes ++ [b]) s1

/-- The instruction at PC and its bytes; the state after is the one the fetches leave (R81). -/
def fetch (s : State) : Out ((Instr × List Byte) × State) := fetchFrom 5 [] s

/-- The state an instruction with these bytes is executed in: R has counted its M1 fetches (R47), the EI shadow is
over (R50), EI itself sets it again (R308), and the boundary it ends at is a new one (R519). -/
def State.begin (bytes : List Byte) (s : State) : State :=
  { s.ticks (m1Fetches bytes) with eiShadow := false, boundaryUsed := false }

/-- An engine call while halted: one M1 increment of R and nothing else of the CPU (R49; log entry 12); the boundary
after it is a new one (R518, R519). -/
def haltedCall (s : State) : Out State := .next { s.tick with boundaryUsed := false }

end Sys2Proof.Machine
end

