-- ==== Sys2Proof/Machine/Engine.lean ====
section
/-! DEFINITION. The engine call, `run_next_opcode()` (R500): exactly one instruction at PC. -/

namespace Sys2Proof.Machine

/-- One engine call: no step from a faulted state (R51, R505); while halted no instruction (R49); otherwise the
instruction at PC is fetched whole, then executed (R91). -/
def engineCall (s : State) : Out State :=
  match s.fault with
  | some m => .fault (.afterFailure m)
  | none =>
    if s.halted then haltedCall s
    else withValue (fetch s) fun x s1 => exec x.1 (s1.begin x.2)

end Sys2Proof.Machine
end

