-- ==== Sys2Proof/Machine/Step.lean ====
section
/-! DEFINITION. One step of a run, and placing an instruction where the next step fetches it. -/

namespace Sys2Proof.Machine

/-- One step of a run (R575): at an instruction boundary an interrupt that can be accepted is accepted (R511 to R513,
R519; log entry 8), otherwise an engine call is made. A faulted state has none (R51, R505). -/
def step (s : State) : Host.Outcome State Fault Refusal :=
  match s.fault with
  | some m => .fault (.afterFailure m)
  | none => if nmiDue s || intDue s then acceptInterrupt s else engineCall s

/-- The storage of the memory space with the bytes put at `a`, `a + 1`, … modulo 2^16. -/
def placeBytes : List Byte → Word → Memory → Memory
  | [], _, m => m
  | b :: rest, a, m => placeBytes rest (a + 1) (m.write a.toNat b)

/-- `s` with the four bytes of an instruction (its bits above `nbits` zero) stored at PC, where `step` fetches its
next instruction. -/
def State.withFetchWord (s : State) (nbits w : Nat) : State :=
  { s with bus := { s.bus with mem := placeBytes (wordBytes nbits w) s.pc s.bus.mem } }

end Sys2Proof.Machine
end

