-- ==== Sys2Proof/Machine/Debugger.lean ====
section
/-! DEFINITION. The host's register access between engine calls (R530, R531), the inputs a host drives (R510), and the
disassembler's view of an instruction's length (R530, R532). None of it is a step of the machine. -/

namespace Sys2Proof.Machine

/-- A register the debugger names (R531). `shadow` is false for the main bank and true for the primed names. -/
inductive DebugReg where
  | reg (shadow : Bool) (r : Reg8)
  | f (shadow : Bool)
  | pair (shadow : Bool) (q : StackPair)
  | index (x : Index)
  | sp
  | pc
  | i
  | r
  | iff1
  | iff2
  | im
  deriving DecidableEq, Repr

/-- The failures of the host's register access (R508, R530). -/
inductive DebugError where
  | unknownRegister
  | valueOutOfRange
  deriving DecidableEq, Repr

/-- What a host operation answers: a value or its error (R530). -/
inductive Answer (α : Type) where
  | ok (a : α)
  | error (e : DebugError)
  deriving DecidableEq, Repr

/-- `get_register_names()`, with what each name stands for (R531). -/
def debugNames : List (String × DebugReg) :=
  [("A", .reg false .a), ("F", .f false), ("B", .reg false .b), ("C", .reg false .c), ("D", .reg false .d),
   ("E", .reg false .e), ("H", .reg false .h), ("L", .reg false .l),
   ("A'", .reg true .a), ("F'", .f true), ("B'", .reg true .b), ("C'", .reg true .c), ("D'", .reg true .d),
   ("E'", .reg true .e), ("H'", .reg true .h), ("L'", .reg true .l),
   ("AF", .pair false .af), ("BC", .pair false .bc), ("DE", .pair false .de), ("HL", .pair false .hl),
   ("AF'", .pair true .af), ("BC'", .pair true .bc), ("DE'", .pair true .de), ("HL'", .pair true .hl),
   ("IX", .index .ix), ("IY", .index .iy), ("SP", .sp), ("PC", .pc), ("I", .i), ("R", .r),
   ("IFF1", .iff1), ("IFF2", .iff2), ("IM", .im)]

/-- The register a name stands for, if any (R531). -/
def debugReg (name : String) : Option DebugReg := debugNames.lookup name

/-- `get_register_size` (R531), in bits. -/
def DebugReg.size : DebugReg → Nat
  | .reg _ _ => 8
  | .f _ => 8
  | .pair _ _ => 16
  | .index _ => 16
  | .sp => 16
  | .pc => 16
  | .i => 8
  | .r => 8
  | .iff1 => 1
  | .iff2 => 1
  | .im => 2

/-- `get_register_size(name)` (R530). -/
def getRegisterSize (name : String) : Answer Nat :=
  match debugReg name with
  | none => .error .unknownRegister
  | some g => .ok g.size

/-- The bank a debugger name is in. -/
def State.bank (s : State) (shadow : Bool) : Bank := if shadow then s.shadow else s.main

/-- Change one bank. -/
def State.onBank (s : State) (shadow : Bool) (g : Bank → Bank) : State :=
  if shadow then { s with shadow := g s.shadow } else { s with main := g s.main }

/-- Show a byte that is written, and draw for one that is not (R530). -/
def showByte (written : Bool) (v : Byte) (s : State) : Byte × State :=
  if written then (v, s) else drawByte s

/-- A bit that is written, and the draw numbered `n` for one that is not (R530). -/
def pickBit (written v : Bool) (n : Nat) : Bool := if written then v else Config.freeBit n

/-- Show F: each bit that is written, and a draw of its own for each bit that is not (R530, R54). -/
def showFlags (k : Bank) (s : State) : Byte × State :=
  if k.written.f = Flags.all then (k.f.toByte, s)
  else
    (Flags.toByte
      { s := pickBit k.written.f.s k.f.s s.draws, z := pickBit k.written.f.z k.f.z (s.draws + 1),
        b5 := pickBit k.written.f.b5 k.f.b5 (s.draws + 2), h := pickBit k.written.f.h k.f.h (s.draws + 3),
        b3 := pickBit k.written.f.b3 k.f.b3 (s.draws + 4), pv := pickBit k.written.f.pv k.f.pv (s.draws + 5),
        n := pickBit k.written.f.n k.f.n (s.draws + 6), c := pickBit k.written.f.c k.f.c (s.draws + 7) },
      { s with draws := s.draws + 8 })

/-- Show two bytes as one word, the high byte first (R33). -/
def showPair (x : State → Byte × State) (y : State → Byte × State) (s : State) : Word × State :=
  (cat (x s).1 (y (x s).2).1, (y (x s).2).2)

/-- Show a 16-bit register that is written, and draw two bytes for one that is not (R530). -/
def showWord (written : Bool) (v : Word) (s : State) : Word × State :=
  if written then (v, s) else showPair drawByte drawByte s

/-- Show one 8-bit register of a bank (R530). -/
def showReg (k : Bank) (r : Reg8) (s : State) : Byte × State := showByte (k.written.get r) (k.get r) s

/-- IM as a number (R46, R531). -/
def IntMode.toNat : IntMode → Nat
  | .im0 => 0
  | .im1 => 1
  | .im2 => 2

/-- The value shown for a register; the marks stay as they are (R530). -/
def DebugReg.show (g : DebugReg) (s : State) : Nat × State :=
  match g with
  | .reg p q => ((showReg (s.bank p) q s).1.toNat, (showReg (s.bank p) q s).2)
  | .f p => ((showFlags (s.bank p) s).1.toNat, (showFlags (s.bank p) s).2)
  | .pair p .bc => let x := showPair (showReg (s.bank p) .b) (showReg (s.bank p) .c) s; (x.1.toNat, x.2)
  | .pair p .de => let x := showPair (showReg (s.bank p) .d) (showReg (s.bank p) .e) s; (x.1.toNat, x.2)
  | .pair p .hl => let x := showPair (showReg (s.bank p) .h) (showReg (s.bank p) .l) s; (x.1.toNat, x.2)
  | .pair p .af => let x := showPair (showReg (s.bank p) .a) (showFlags (s.bank p)) s; (x.1.toNat, x.2)
  | .index .ix => ((showWord s.written.ix s.ix s).1.toNat, (showWord s.written.ix s.ix s).2)
  | .index .iy => ((showWord s.written.iy s.iy s).1.toNat, (showWord s.written.iy s.iy s).2)
  | .sp => ((showWord s.written.sp s.sp s).1.toNat, (showWord s.written.sp s.sp s).2)
  | .pc => (s.pc.toNat, s)
  | .i => (s.i.toNat, s)
  | .r => (s.r.toNat, s)
  | .iff1 => (s.iff1.toNat, s)
  | .iff2 => (s.iff2.toNat, s)
  | .im => (s.im.toNat, s)

/-- `get_register_value(name)` (R530): only the count of draws can change. -/
def getRegisterValue (name : String) (s : State) : Answer (Nat × State) :=
  match debugReg name with
  | none => .error .unknownRegister
  | some g => .ok (g.show s)

/-- The largest value of a register (R530, R531): 2 for IM, else 2^size − 1. -/
def DebugReg.top (g : DebugReg) : Int :=
  match g with
  | .im => 2
  | .reg _ _ => 255
  | .f _ => 255
  | .pair _ _ => 65535
  | .index _ => 65535
  | .sp => 65535
  | .pc => 65535
  | .i => 255
  | .r => 255
  | .iff1 => 1
  | .iff2 => 1

/-- Write a value in range: exactly the named register, and its mark (R530). -/
def DebugReg.write (g : DebugReg) (v : Int) (s : State) : State :=
  let b := BitVec.ofInt 8 v
  let w := BitVec.ofInt 16 v
  match g with
  | .reg p q => s.onBank p (fun k => k.put q b)
  | .f p => s.onBank p (fun k => k.putF b)
  | .pair p .bc => s.onBank p (fun k => (k.put .b (hi w)).put .c (lo w))
  | .pair p .de => s.onBank p (fun k => (k.put .d (hi w)).put .e (lo w))
  | .pair p .hl => s.onBank p (fun k => (k.put .h (hi w)).put .l (lo w))
  | .pair p .af => s.onBank p (fun k => (k.put .a (hi w)).putF (lo w))
  | .index x => s.setIndex x w
  | .sp => s.setSp w
  | .pc => { s with pc := w }
  | .i => { s with i := b }
  | .r => { s with r := b }
  | .iff1 => { s with iff1 := decide (v ≠ 0) }
  | .iff2 => { s with iff2 := decide (v ≠ 0) }
  | .im => { s with im := if v = 0 then .im0 else if v = 1 then .im1 else .im2 }

/-- `set_register_value(name, value)` (R530). -/
def setRegisterValue (name : String) (v : Int) (s : State) : Answer State :=
  match debugReg name with
  | none => .error .unknownRegister
  | some g => if 0 ≤ v ∧ v ≤ g.top then .ok (g.write v s) else .error .valueOutOfRange

/-- What the host can do to the machine between engine calls (R510, R530): signal an NMI edge, drive the INT level and
its data byte, write a register. -/
inductive HostMove where
  | signalNmi
  | driveInt (level : Bool) (data : Byte)
  | setRegister (name : String) (value : Int)
  deriving DecidableEq, Repr

/-- The machine after a host move; a register write that fails changes nothing (R508). -/
def HostMove.apply (m : HostMove) (s : State) : State :=
  match m with
  | .signalNmi => { s with lines := { s.lines with nmiPending := true } }
  | .driveInt level data => { s with lines := { s.lines with intLine := level, intData := data } }
  | .setRegister name v =>
    match setRegisterValue name v s with
    | .ok t => t
    | .error _ => s

/-- What `get_code_and_length(address)` finds, but for the text: the instruction stored at the address and its length,
or InvalidOpcode; it reads the storage without an access that a region would see (R530, R532; the text is out of
scope, R4). The spec does not say what it finds at an address that is unmapped, not readable or a device's: the model
decodes the stored byte there, 0x00 where there is none, whatever the regions are (DESIGN CHOICE, log entry 24). -/
def codeAndLength (a : Word) (s : State) : Decoded :=
  decode [s.bus.stored (.mem a), s.bus.stored (.mem (a + 1)), s.bus.stored (.mem (a + 2)), s.bus.stored (.mem (a + 3))]

end Sys2Proof.Machine
end

