-- ==== Sys2Proof/Machine/Launch.lean ====
section
/-! DEFINITION. The launch of a run (R552), what the host keeps of a failure (R51, R505), and when a run has ended
(R575). -/

namespace Sys2Proof.Machine

/-- What a platform and a host fix for a run (R6, R552): the regions and their initial contents, the interrupt inputs
used and their first levels, the host's register writes, and the stop address. -/
structure Launch where
  memRegions : List Region
  ioRegions : List Region
  mem : List Host.Cell
  io : List Host.Cell
  nmiSource : Bool
  intSource : Bool
  nmiPending : Bool
  intLine : Bool
  intData : Byte
  writes : List (String × Int)
  stopPc : Option Word
  deriving DecidableEq, Repr

/-- Initial contents put into the canonical form; a cell outside the space is ignored. -/
def loadCells (size : Nat) (cells : List Host.Cell) : Memory :=
  cells.foldl (fun m c => if c.1 < size then m.write c.1 c.2 else m) []

/-- The start of a run (R552): refused for a region list with overlapping ranges (R71), else the reset state over the
launch's bus, with the host's register writes applied in order. -/
def Launch.boot (p : Launch) : Out State :=
  if regionsDisjoint p.memRegions && regionsDisjoint p.ioRegions then
    .next (p.writes.foldl (fun s w => (HostMove.setRegister w.1 w.2).apply s)
      { State.reset with
        bus := { memRegions := p.memRegions, ioRegions := p.ioRegions, mem := loadCells 65536 p.mem
                 io := loadCells 256 p.io, log := [] }
        lines := { nmiPending := p.nmiPending, intLine := p.intLine, intData := p.intData
                   nmiSource := p.nmiSource, intSource := p.intSource } })
  else .refused .illFormedRegions

/-- The mark a fault of `step` leaves (R505, R507), with the bus as the accesses before the failure left it (R504). -/
def Fault.mark : Fault → FaultMark × Option Bus
  | .invalidOpcode bytes pc0 bus => ({ failure := .invalidOpcode bytes, pc0 := pc0 }, some bus)
  | .busError kind place pc0 bus => ({ failure := .busError kind place, pc0 := pc0 }, some bus)
  | .unwrittenRegister name pc0 bus => ({ failure := .unwrittenRegister name, pc0 := pc0 }, some bus)
  | .afterFailure m => (m, none)

/-- The state after a failed step, as the host records it: the fault mark is set, the accesses before the failure are
performed, and the registers, which the spec leaves unspecified, stay as they were (R505; log entry 9). -/
def State.afterFault (s : State) (r : Fault) : State :=
  { s with fault := some r.mark.1, bus := r.mark.2.getD s.bus }

/-- The run has ended successfully (R575): a permanent halt, or the stop address reached. -/
def ended (stopPc : Option Word) (s : State) : Bool :=
  s.fault == none &&
    ((s.halted && !s.iff1 && !s.lines.nmiSource) || (stopPc == some s.pc && !s.halted))

end Sys2Proof.Machine
end

