-- ==== Sys2Proof/Machine/Family.lean ====
section
/-! DEFINITION. The instruction rules as one type: a constructor for each rule R140 to R442 that defines an instruction (the four
search and transfer rules of one shape together), its arguments the operand fields the rule names. `Instr.family` maps
each of the 698 rows of the opcode table to its rule and fields, so that a statement can speak of `LD r,r'` for
every r and r' at once; `Family.encoding` is the Encoding line of each rule. The machine's step does not use this type. -/

namespace Sys2Proof

open Sys2Proof.Machine

/-- An instruction as its rule names it. -/
inductive Family where
  /-- `LD r,r'` (R140). -/
  | ldRR (dst src : Reg8)
  /-- `LD r,n` (R141). -/
  | ldRN (dst : Reg8) (n : Byte)
  /-- `LD r,(HL)` (R142). -/
  | ldRHl (dst : Reg8)
  /-- `LD r,(XY+d)` (R143). -/
  | ldRIdx (r : Reg8) (x : Index) (d : Int)
  /-- `LD (HL),r` (R144). -/
  | ldHlR (r : Reg8)
  /-- `LD (XY+d),r` (R145). -/
  | ldIdxR (x : Index) (d : Int) (r : Reg8)
  /-- `LD (HL),n` (R146). -/
  | ldHlN (n : Byte)
  /-- `LD (XY+d),n` (R147). -/
  | ldIdxN (x : Index) (d : Int) (n : Byte)
  /-- `LD A,(BC)` (R148). -/
  | ldABc
  /-- `LD A,(DE)` (R149). -/
  | ldADe
  /-- `LD A,(nn)` (R150). -/
  | ldANn (nn : Word)
  /-- `LD (BC),A` (R151). -/
  | ldBcA
  /-- `LD (DE),A` (R152). -/
  | ldDeA
  /-- `LD (nn),A` (R153). -/
  | ldNnA (nn : Word)
  /-- `LD A,I` (R154). -/
  | ldAI
  /-- `LD A,R` (R155). -/
  | ldAR
  /-- `LD I,A` (R156). -/
  | ldIA
  /-- `LD R,A` (R157). -/
  | ldRA
  /-- `LD dd,nn` (R170). -/
  | ldDdNn (dd : Pair) (nn : Word)
  /-- `LD XY,nn` (R171). -/
  | ldXyNn (x : Index) (nn : Word)
  /-- `LD HL,(nn)`, the 3-byte form (R172). -/
  | ldHlFrom (nn : Word)
  /-- `LD dd,(nn)`, the ED form (R173). -/
  | ldDdFrom (dd : Pair) (nn : Word)
  /-- `LD XY,(nn)` (R174). -/
  | ldXyFrom (x : Index) (nn : Word)
  /-- `LD (nn),HL`, the 3-byte form (R175). -/
  | ldNnHl (nn : Word)
  /-- `LD (nn),dd`, the ED form (R176). -/
  | ldNnDd (nn : Word) (dd : Pair)
  /-- `LD (nn),XY` (R177). -/
  | ldNnXy (nn : Word) (x : Index)
  /-- `LD SP,HL` (R178). -/
  | ldSpHl
  /-- `LD SP,XY` (R179). -/
  | ldSpXy (x : Index)
  /-- `PUSH qq` (R180). -/
  | push (q : StackPair)
  /-- `PUSH XY` (R181). -/
  | pushXy (x : Index)
  /-- `POP qq` (R182). -/
  | pop (q : StackPair)
  /-- `POP XY` (R183). -/
  | popXy (x : Index)
  /-- `EX DE,HL` (R200). -/
  | exDeHl
  /-- `EX AF,AF'` (R201). -/
  | exAf
  /-- `EXX` (R202). -/
  | exx
  /-- `EX (SP),HL` (R203). -/
  | exSpHl
  /-- `EX (SP),XY` (R204). -/
  | exSpXy (x : Index)
  /-- LDI, LDIR, LDD, LDDR (R206 to R209). -/
  | ldBlock (dir : Dir) (rep : Bool)
  /-- CPI, CPIR, CPD, CPDR (R210 to R213). -/
  | cpBlock (dir : Dir) (rep : Bool)
  /-- The eight operations on A and a register (R240, R244, R248, R252, R256, R260, R264, R268). -/
  | aluR (op : AluOp) (r : Reg8)
  /-- The eight operations on A and n (R241, R245, R249, R253, R257, R261, R265, R269). -/
  | aluN (op : AluOp) (n : Byte)
  /-- The eight operations on A and (HL) (R242, R246, R250, R254, R258, R262, R266, R270). -/
  | aluHl (op : AluOp)
  /-- The eight operations on A and (XY+d) (R243, R247, R251, R255, R259, R263, R267, R271). -/
  | aluIdx (op : AluOp) (x : Index) (d : Int)
  /-- `INC r` (R272). -/
  | incR (r : Reg8)
  /-- `INC (HL)` (R273). -/
  | incHl
  /-- `INC (XY+d)` (R274). -/
  | incIdx (x : Index) (d : Int)
  /-- `DEC r` (R275). -/
  | decR (r : Reg8)
  /-- `DEC (HL)` (R276). -/
  | decHl
  /-- `DEC (XY+d)` (R277). -/
  | decIdx (x : Index) (d : Int)
  /-- R300. -/
  | daa
  /-- R301. -/
  | cpl
  /-- R302. -/
  | neg
  /-- R303. -/
  | ccf
  /-- R304. -/
  | scf
  /-- R305. -/
  | nop
  /-- R306. -/
  | halt
  /-- R307. -/
  | di
  /-- R308. -/
  | ei
  /-- `IM 0`, `IM 1`, `IM 2` (R309 to R311). -/
  | im (m : IntMode)
  /-- `ADD HL,ss` (R322). -/
  | addHl (p : Pair)
  /-- `ADC HL,ss` (R323). -/
  | adcHl (p : Pair)
  /-- `SBC HL,ss` (R324). -/
  | sbcHl (p : Pair)
  /-- `ADD XY,pp` (R325). -/
  | addXy (x : Index) (p : IndexPair)
  /-- `INC ss` (R326). -/
  | incSs (p : Pair)
  /-- `INC XY` (R327). -/
  | incXy (x : Index)
  /-- `DEC ss` (R328). -/
  | decSs (p : Pair)
  /-- `DEC XY` (R329). -/
  | decXy (x : Index)
  /-- RLCA, RRCA, RLA, RRA (R342 to R345). -/
  | rotA (op : ShiftOp)
  /-- The CB-table rotates and shifts of a register (R346, R349, R352, R355, R358, R361, R364). -/
  | shiftR (op : ShiftOp) (r : Reg8)
  /-- The same of (HL) (R347, R350, R353, R356, R359, R362, R365). -/
  | shiftHl (op : ShiftOp)
  /-- The same of (XY+d) (R348, R351, R354, R357, R360, R363, R366). -/
  | shiftIdx (op : ShiftOp) (x : Index) (d : Int)
  /-- R367. -/
  | rld
  /-- R368. -/
  | rrd
  /-- `BIT b,r` (R380). -/
  | bitR (b : Fin 8) (r : Reg8)
  /-- `BIT b,(HL)` (R381). -/
  | bitHl (b : Fin 8)
  /-- `BIT b,(XY+d)` (R382). -/
  | bitIdx (b : Fin 8) (x : Index) (d : Int)
  /-- `SET b,r` (R383). -/
  | setR (b : Fin 8) (r : Reg8)
  /-- `SET b,(HL)` (R384). -/
  | setHl (b : Fin 8)
  /-- `SET b,(XY+d)` (R385). -/
  | setIdx (b : Fin 8) (x : Index) (d : Int)
  /-- `RES b,r` (R386). -/
  | resR (b : Fin 8) (r : Reg8)
  /-- `RES b,(HL)` (R387). -/
  | resHl (b : Fin 8)
  /-- `RES b,(XY+d)` (R388). -/
  | resIdx (b : Fin 8) (x : Index) (d : Int)
  /-- `JP nn` (R401). -/
  | jp (nn : Word)
  /-- `JP cc,nn` (R402). -/
  | jpCc (cc : Cond) (nn : Word)
  /-- `JR e` (R403). -/
  | jr (e : Int)
  /-- `JR cc,e` (R404). -/
  | jrCc (cc : Cond) (e : Int)
  /-- `JP (HL)` (R405). -/
  | jpHl
  /-- `JP (XY)` (R406). -/
  | jpXy (x : Index)
  /-- `DJNZ e` (R407). -/
  | djnz (e : Int)
  /-- `CALL nn` (R408). -/
  | call (nn : Word)
  /-- `CALL cc,nn` (R409). -/
  | callCc (cc : Cond) (nn : Word)
  /-- `RET` (R410). -/
  | ret
  /-- `RET cc` (R411). -/
  | retCc (cc : Cond)
  /-- `RETI` (R412). -/
  | reti
  /-- `RETN` (R413). -/
  | retn
  /-- `RST p`, p = 8 * ppp (R414). -/
  | rst (p : Fin 8)
  /-- `IN A,(n)` (R431). -/
  | inAN (n : Byte)
  /-- `IN r,(C)` (R432). -/
  | inRC (r : Reg8)
  /-- INI, INIR, IND, INDR (R433 to R436). -/
  | inBlock (dir : Dir) (rep : Bool)
  /-- `OUT (n),A` (R437). -/
  | outNA (n : Byte)
  /-- `OUT (C),r` (R438). -/
  | outCR (r : Reg8)
  /-- OUTI, OTIR, OUTD, OTDR (R439 to R442). -/
  | outBlock (dir : Dir) (rep : Bool)
  deriving DecidableEq, Repr

/-- A byte from its bit fields. -/
def opByte (n : Nat) : Byte := BitVec.ofNat 8 n

/-- The opcode byte of a block instruction, `101RD0oo` (R118). -/
def blockByte (oo : Nat) (dir : Dir) (rep : Bool) : Byte :=
  opByte (0xA0 + 16 * rep.toNat + (match dir with | .up => 0 | .down => 8) + oo)

/-- The Encoding line of each rule, with the operand bytes (R100, R110 to R113). -/
def Family.encoding : Family → List Byte
  | .ldRR dst src => [opByte (0x40 + 8 * dst.code + src.code)]
  | .ldRN dst n => [opByte (0x06 + 8 * dst.code), n]
  | .ldRHl dst => [opByte (0x46 + 8 * dst.code)]
  | .ldRIdx r x d => [x.byte, opByte (0x46 + 8 * r.code), signedCode d]
  | .ldHlR r => [opByte (0x70 + r.code)]
  | .ldIdxR x d r => [x.byte, opByte (0x70 + r.code), signedCode d]
  | .ldHlN n => [0x36#8, n]
  | .ldIdxN x d n => [x.byte, 0x36#8, signedCode d, n]
  | .ldABc => [0x0A#8]
  | .ldADe => [0x1A#8]
  | .ldANn nn => [0x3A#8, lo nn, hi nn]
  | .ldBcA => [0x02#8]
  | .ldDeA => [0x12#8]
  | .ldNnA nn => [0x32#8, lo nn, hi nn]
  | .ldAI => [0xED#8, 0x57#8]
  | .ldAR => [0xED#8, 0x5F#8]
  | .ldIA => [0xED#8, 0x47#8]
  | .ldRA => [0xED#8, 0x4F#8]
  | .ldDdNn dd nn => [opByte (0x01 + 16 * dd.code), lo nn, hi nn]
  | .ldXyNn x nn => [x.byte, 0x21#8, lo nn, hi nn]
  | .ldHlFrom nn => [0x2A#8, lo nn, hi nn]
  | .ldDdFrom dd nn => [0xED#8, opByte (0x4B + 16 * dd.code), lo nn, hi nn]
  | .ldXyFrom x nn => [x.byte, 0x2A#8, lo nn, hi nn]
  | .ldNnHl nn => [0x22#8, lo nn, hi nn]
  | .ldNnDd nn dd => [0xED#8, opByte (0x43 + 16 * dd.code), lo nn, hi nn]
  | .ldNnXy nn x => [x.byte, 0x22#8, lo nn, hi nn]
  | .ldSpHl => [0xF9#8]
  | .ldSpXy x => [x.byte, 0xF9#8]
  | .push q => [opByte (0xC5 + 16 * q.code)]
  | .pushXy x => [x.byte, 0xE5#8]
  | .pop q => [opByte (0xC1 + 16 * q.code)]
  | .popXy x => [x.byte, 0xE1#8]
  | .exDeHl => [0xEB#8]
  | .exAf => [0x08#8]
  | .exx => [0xD9#8]
  | .exSpHl => [0xE3#8]
  | .exSpXy x => [x.byte, 0xE3#8]
  | .ldBlock dir rep => [0xED#8, blockByte 0 dir rep]
  | .cpBlock dir rep => [0xED#8, blockByte 1 dir rep]
  | .aluR op r => [opByte (0x80 + 8 * op.code + r.code)]
  | .aluN op n => [opByte (0xC6 + 8 * op.code), n]
  | .aluHl op => [opByte (0x86 + 8 * op.code)]
  | .aluIdx op x d => [x.byte, opByte (0x86 + 8 * op.code), signedCode d]
  | .incR r => [opByte (0x04 + 8 * r.code)]
  | .incHl => [0x34#8]
  | .incIdx x d => [x.byte, 0x34#8, signedCode d]
  | .decR r => [opByte (0x05 + 8 * r.code)]
  | .decHl => [0x35#8]
  | .decIdx x d => [x.byte, 0x35#8, signedCode d]
  | .daa => [0x27#8]
  | .cpl => [0x2F#8]
  | .neg => [0xED#8, 0x44#8]
  | .ccf => [0x3F#8]
  | .scf => [0x37#8]
  | .nop => [0x00#8]
  | .halt => [0x76#8]
  | .di => [0xF3#8]
  | .ei => [0xFB#8]
  | .im m => [0xED#8, match m with | .im0 => 0x46#8 | .im1 => 0x56#8 | .im2 => 0x5E#8]
  | .addHl p => [opByte (0x09 + 16 * p.code)]
  | .adcHl p => [0xED#8, opByte (0x4A + 16 * p.code)]
  | .sbcHl p => [0xED#8, opByte (0x42 + 16 * p.code)]
  | .addXy x p => [x.byte, opByte (0x09 + 16 * p.code)]
  | .incSs p => [opByte (0x03 + 16 * p.code)]
  | .incXy x => [x.byte, 0x23#8]
  | .decSs p => [opByte (0x0B + 16 * p.code)]
  | .decXy x => [x.byte, 0x2B#8]
  | .rotA op => [opByte (0x07 + 8 * op.code)]
  | .shiftR op r => [0xCB#8, opByte (8 * op.code + r.code)]
  | .shiftHl op => [0xCB#8, opByte (8 * op.code + 6)]
  | .shiftIdx op x d => [x.byte, 0xCB#8, signedCode d, opByte (8 * op.code + 6)]
  | .rld => [0xED#8, 0x6F#8]
  | .rrd => [0xED#8, 0x67#8]
  | .bitR b r => [0xCB#8, opByte (0x40 + 8 * b.val + r.code)]
  | .bitHl b => [0xCB#8, opByte (0x46 + 8 * b.val)]
  | .bitIdx b x d => [x.byte, 0xCB#8, signedCode d, opByte (0x46 + 8 * b.val)]
  | .setR b r => [0xCB#8, opByte (0xC0 + 8 * b.val + r.code)]
  | .setHl b => [0xCB#8, opByte (0xC6 + 8 * b.val)]
  | .setIdx b x d => [x.byte, 0xCB#8, signedCode d, opByte (0xC6 + 8 * b.val)]
  | .resR b r => [0xCB#8, opByte (0x80 + 8 * b.val + r.code)]
  | .resHl b => [0xCB#8, opByte (0x86 + 8 * b.val)]
  | .resIdx b x d => [x.byte, 0xCB#8, signedCode d, opByte (0x86 + 8 * b.val)]
  | .jp nn => [0xC3#8, lo nn, hi nn]
  | .jpCc cc nn => [opByte (0xC2 + 8 * cc.code), lo nn, hi nn]
  | .jr e => [0x18#8, signedCode e]
  | .jrCc cc e => [opByte (0x20 + 8 * cc.code), signedCode e]
  | .jpHl => [0xE9#8]
  | .jpXy x => [x.byte, 0xE9#8]
  | .djnz e => [0x10#8, signedCode e]
  | .call nn => [0xCD#8, lo nn, hi nn]
  | .callCc cc nn => [opByte (0xC4 + 8 * cc.code), lo nn, hi nn]
  | .ret => [0xC9#8]
  | .retCc cc => [opByte (0xC0 + 8 * cc.code)]
  | .reti => [0xED#8, 0x4D#8]
  | .retn => [0xED#8, 0x45#8]
  | .rst p => [opByte (0xC7 + 8 * p.val)]
  | .inAN n => [0xDB#8, n]
  | .inRC r => [0xED#8, opByte (0x40 + 8 * r.code)]
  | .inBlock dir rep => [0xED#8, blockByte 2 dir rep]
  | .outNA n => [0xD3#8, n]
  | .outCR r => [0xED#8, opByte (0x41 + 8 * r.code)]
  | .outBlock dir rep => [0xED#8, blockByte 3 dir rep]

/-- The family of an instruction: the map from the rows of the opcode table to the instruction rules. -/
def Instr.family : Instr → Family
  | .ldBcNn nn => .ldDdNn .bc nn
  | .ldBN n => .ldRN .b n
  | .ldCN n => .ldRN .c n
  | .djnzE e => .djnz e
  | .ldDeNn nn => .ldDdNn .de nn
  | .ldDN n => .ldRN .d n
  | .jrE e => .jr e
  | .ldEN n => .ldRN .e n
  | .jrNzE e => .jrCc .nz e
  | .ldHlNn nn => .ldDdNn .hl nn
  | .ldMemNnHl nn => .ldNnHl nn
  | .ldHN n => .ldRN .h n
  | .jrZE e => .jrCc .z e
  | .ldHlMemNn nn => .ldHlFrom nn
  | .ldLN n => .ldRN .l n
  | .jrNcE e => .jrCc .nc e
  | .ldSpNn nn => .ldDdNn .sp nn
  | .ldMemNnA nn => .ldNnA nn
  | .ldMemHlN n => .ldHlN n
  | .jrCE e => .jrCc .c e
  | .ldAMemNn nn => .ldANn nn
  | .ldAN n => .ldRN .a n
  | .jpNzNn nn => .jpCc .nz nn
  | .jpNn nn => .jp nn
  | .callNzNn nn => .callCc .nz nn
  | .addAN n => .aluN .add n
  | .jpZNn nn => .jpCc .z nn
  | .callZNn nn => .callCc .z nn
  | .callNn nn => .call nn
  | .adcAN n => .aluN .adc n
  | .jpNcNn nn => .jpCc .nc nn
  | .outPortNA n => .outNA n
  | .callNcNn nn => .callCc .nc nn
  | .subN n => .aluN .sub n
  | .jpCNn nn => .jpCc .c nn
  | .inAPortN n => .inAN n
  | .callCNn nn => .callCc .c nn
  | .sbcAN n => .aluN .sbc n
  | .jpPoNn nn => .jpCc .po nn
  | .callPoNn nn => .callCc .po nn
  | .andN n => .aluN .and n
  | .jpPeNn nn => .jpCc .pe nn
  | .callPeNn nn => .callCc .pe nn
  | .xorN n => .aluN .xor n
  | .jpPNn nn => .jpCc .p nn
  | .callPNn nn => .callCc .p nn
  | .orN n => .aluN .or n
  | .jpMNn nn => .jpCc .m nn
  | .callMNn nn => .callCc .m nn
  | .cpN n => .aluN .cp n
  | .ldIxNn nn => .ldXyNn .ix nn
  | .ldMemNnIx nn => .ldNnXy nn .ix
  | .ldIxMemNn nn => .ldXyFrom .ix nn
  | .incMemIx d => .incIdx .ix d
  | .decMemIx d => .decIdx .ix d
  | .ldMemIxN d n => .ldIdxN .ix d n
  | .ldBMemIx d => .ldRIdx .b .ix d
  | .ldCMemIx d => .ldRIdx .c .ix d
  | .ldDMemIx d => .ldRIdx .d .ix d
  | .ldEMemIx d => .ldRIdx .e .ix d
  | .ldHMemIx d => .ldRIdx .h .ix d
  | .ldLMemIx d => .ldRIdx .l .ix d
  | .ldAMemIx d => .ldRIdx .a .ix d
  | .ldMemIxB d => .ldIdxR .ix d .b
  | .ldMemIxC d => .ldIdxR .ix d .c
  | .ldMemIxD d => .ldIdxR .ix d .d
  | .ldMemIxE d => .ldIdxR .ix d .e
  | .ldMemIxH d => .ldIdxR .ix d .h
  | .ldMemIxL d => .ldIdxR .ix d .l
  | .ldMemIxA d => .ldIdxR .ix d .a
  | .addAMemIx d => .aluIdx .add .ix d
  | .adcAMemIx d => .aluIdx .adc .ix d
  | .subMemIx d => .aluIdx .sub .ix d
  | .sbcAMemIx d => .aluIdx .sbc .ix d
  | .andMemIx d => .aluIdx .and .ix d
  | .xorMemIx d => .aluIdx .xor .ix d
  | .orMemIx d => .aluIdx .or .ix d
  | .cpMemIx d => .aluIdx .cp .ix d
  | .rlcMemIx d => .shiftIdx .rlc .ix d
  | .rrcMemIx d => .shiftIdx .rrc .ix d
  | .rlMemIx d => .shiftIdx .rl .ix d
  | .rrMemIx d => .shiftIdx .rr .ix d
  | .slaMemIx d => .shiftIdx .sla .ix d
  | .sraMemIx d => .shiftIdx .sra .ix d
  | .srlMemIx d => .shiftIdx .srl .ix d
  | .bit0MemIx d => .bitIdx 0 .ix d
  | .bit1MemIx d => .bitIdx 1 .ix d
  | .bit2MemIx d => .bitIdx 2 .ix d
  | .bit3MemIx d => .bitIdx 3 .ix d
  | .bit4MemIx d => .bitIdx 4 .ix d
  | .bit5MemIx d => .bitIdx 5 .ix d
  | .bit6MemIx d => .bitIdx 6 .ix d
  | .bit7MemIx d => .bitIdx 7 .ix d
  | .res0MemIx d => .resIdx 0 .ix d
  | .res1MemIx d => .resIdx 1 .ix d
  | .res2MemIx d => .resIdx 2 .ix d
  | .res3MemIx d => .resIdx 3 .ix d
  | .res4MemIx d => .resIdx 4 .ix d
  | .res5MemIx d => .resIdx 5 .ix d
  | .res6MemIx d => .resIdx 6 .ix d
  | .res7MemIx d => .resIdx 7 .ix d
  | .set0MemIx d => .setIdx 0 .ix d
  | .set1MemIx d => .setIdx 1 .ix d
  | .set2MemIx d => .setIdx 2 .ix d
  | .set3MemIx d => .setIdx 3 .ix d
  | .set4MemIx d => .setIdx 4 .ix d
  | .set5MemIx d => .setIdx 5 .ix d
  | .set6MemIx d => .setIdx 6 .ix d
  | .set7MemIx d => .setIdx 7 .ix d
  | .ldIyNn nn => .ldXyNn .iy nn
  | .ldMemNnIy nn => .ldNnXy nn .iy
  | .ldIyMemNn nn => .ldXyFrom .iy nn
  | .incMemIy d => .incIdx .iy d
  | .decMemIy d => .decIdx .iy d
  | .ldMemIyN d n => .ldIdxN .iy d n
  | .ldBMemIy d => .ldRIdx .b .iy d
  | .ldCMemIy d => .ldRIdx .c .iy d
  | .ldDMemIy d => .ldRIdx .d .iy d
  | .ldEMemIy d => .ldRIdx .e .iy d
  | .ldHMemIy d => .ldRIdx .h .iy d
  | .ldLMemIy d => .ldRIdx .l .iy d
  | .ldAMemIy d => .ldRIdx .a .iy d
  | .ldMemIyB d => .ldIdxR .iy d .b
  | .ldMemIyC d => .ldIdxR .iy d .c
  | .ldMemIyD d => .ldIdxR .iy d .d
  | .ldMemIyE d => .ldIdxR .iy d .e
  | .ldMemIyH d => .ldIdxR .iy d .h
  | .ldMemIyL d => .ldIdxR .iy d .l
  | .ldMemIyA d => .ldIdxR .iy d .a
  | .addAMemIy d => .aluIdx .add .iy d
  | .adcAMemIy d => .aluIdx .adc .iy d
  | .subMemIy d => .aluIdx .sub .iy d
  | .sbcAMemIy d => .aluIdx .sbc .iy d
  | .andMemIy d => .aluIdx .and .iy d
  | .xorMemIy d => .aluIdx .xor .iy d
  | .orMemIy d => .aluIdx .or .iy d
  | .cpMemIy d => .aluIdx .cp .iy d
  | .rlcMemIy d => .shiftIdx .rlc .iy d
  | .rrcMemIy d => .shiftIdx .rrc .iy d
  | .rlMemIy d => .shiftIdx .rl .iy d
  | .rrMemIy d => .shiftIdx .rr .iy d
  | .slaMemIy d => .shiftIdx .sla .iy d
  | .sraMemIy d => .shiftIdx .sra .iy d
  | .srlMemIy d => .shiftIdx .srl .iy d
  | .bit0MemIy d => .bitIdx 0 .iy d
  | .bit1MemIy d => .bitIdx 1 .iy d
  | .bit2MemIy d => .bitIdx 2 .iy d
  | .bit3MemIy d => .bitIdx 3 .iy d
  | .bit4MemIy d => .bitIdx 4 .iy d
  | .bit5MemIy d => .bitIdx 5 .iy d
  | .bit6MemIy d => .bitIdx 6 .iy d
  | .bit7MemIy d => .bitIdx 7 .iy d
  | .res0MemIy d => .resIdx 0 .iy d
  | .res1MemIy d => .resIdx 1 .iy d
  | .res2MemIy d => .resIdx 2 .iy d
  | .res3MemIy d => .resIdx 3 .iy d
  | .res4MemIy d => .resIdx 4 .iy d
  | .res5MemIy d => .resIdx 5 .iy d
  | .res6MemIy d => .resIdx 6 .iy d
  | .res7MemIy d => .resIdx 7 .iy d
  | .set0MemIy d => .setIdx 0 .iy d
  | .set1MemIy d => .setIdx 1 .iy d
  | .set2MemIy d => .setIdx 2 .iy d
  | .set3MemIy d => .setIdx 3 .iy d
  | .set4MemIy d => .setIdx 4 .iy d
  | .set5MemIy d => .setIdx 5 .iy d
  | .set6MemIy d => .setIdx 6 .iy d
  | .set7MemIy d => .setIdx 7 .iy d
  | .ldMemNnBc nn => .ldNnDd nn .bc
  | .ldBcMemNn nn => .ldDdFrom .bc nn
  | .ldMemNnDe nn => .ldNnDd nn .de
  | .ldDeMemNn nn => .ldDdFrom .de nn
  | .ldMemNnHlEd nn => .ldNnDd nn .hl
  | .ldHlMemNnEd nn => .ldDdFrom .hl nn
  | .ldMemNnSp nn => .ldNnDd nn .sp
  | .ldSpMemNn nn => .ldDdFrom .sp nn
  | .nop => .nop
  | .ldMemBcA => .ldBcA
  | .incBc => .incSs .bc
  | .incB => .incR .b
  | .decB => .decR .b
  | .rlca => .rotA .rlc
  | .exAfAf => .exAf
  | .addHlBc => .addHl .bc
  | .ldAMemBc => .ldABc
  | .decBc => .decSs .bc
  | .incC => .incR .c
  | .decC => .decR .c
  | .rrca => .rotA .rrc
  | .ldMemDeA => .ldDeA
  | .incDe => .incSs .de
  | .incD => .incR .d
  | .decD => .decR .d
  | .rla => .rotA .rl
  | .addHlDe => .addHl .de
  | .ldAMemDe => .ldADe
  | .decDe => .decSs .de
  | .incE => .incR .e
  | .decE => .decR .e
  | .rra => .rotA .rr
  | .incHl => .incSs .hl
  | .incH => .incR .h
  | .decH => .decR .h
  | .daa => .daa
  | .addHlHl => .addHl .hl
  | .decHl => .decSs .hl
  | .incL => .incR .l
  | .decL => .decR .l
  | .cpl => .cpl
  | .incSp => .incSs .sp
  | .incMemHl => .incHl
  | .decMemHl => .decHl
  | .scf => .scf
  | .addHlSp => .addHl .sp
  | .decSp => .decSs .sp
  | .incA => .incR .a
  | .decA => .decR .a
  | .ccf => .ccf
  | .ldBB => .ldRR .b .b
  | .ldBC => .ldRR .b .c
  | .ldBD => .ldRR .b .d
  | .ldBE => .ldRR .b .e
  | .ldBH => .ldRR .b .h
  | .ldBL => .ldRR .b .l
  | .ldBMemHl => .ldRHl .b
  | .ldBA => .ldRR .b .a
  | .ldCB => .ldRR .c .b
  | .ldCC => .ldRR .c .c
  | .ldCD => .ldRR .c .d
  | .ldCE => .ldRR .c .e
  | .ldCH => .ldRR .c .h
  | .ldCL => .ldRR .c .l
  | .ldCMemHl => .ldRHl .c
  | .ldCA => .ldRR .c .a
  | .ldDB => .ldRR .d .b
  | .ldDC => .ldRR .d .c
  | .ldDD => .ldRR .d .d
  | .ldDE => .ldRR .d .e
  | .ldDH => .ldRR .d .h
  | .ldDL => .ldRR .d .l
  | .ldDMemHl => .ldRHl .d
  | .ldDA => .ldRR .d .a
  | .ldEB => .ldRR .e .b
  | .ldEC => .ldRR .e .c
  | .ldED => .ldRR .e .d
  | .ldEE => .ldRR .e .e
  | .ldEH => .ldRR .e .h
  | .ldEL => .ldRR .e .l
  | .ldEMemHl => .ldRHl .e
  | .ldEA => .ldRR .e .a
  | .ldHB => .ldRR .h .b
  | .ldHC => .ldRR .h .c
  | .ldHD => .ldRR .h .d
  | .ldHE => .ldRR .h .e
  | .ldHH => .ldRR .h .h
  | .ldHL => .ldRR .h .l
  | .ldHMemHl => .ldRHl .h
  | .ldHA => .ldRR .h .a
  | .ldLB => .ldRR .l .b
  | .ldLC => .ldRR .l .c
  | .ldLD => .ldRR .l .d
  | .ldLE => .ldRR .l .e
  | .ldLH => .ldRR .l .h
  | .ldLL => .ldRR .l .l
  | .ldLMemHl => .ldRHl .l
  | .ldLA => .ldRR .l .a
  | .ldMemHlB => .ldHlR .b
  | .ldMemHlC => .ldHlR .c
  | .ldMemHlD => .ldHlR .d
  | .ldMemHlE => .ldHlR .e
  | .ldMemHlH => .ldHlR .h
  | .ldMemHlL => .ldHlR .l
  | .halt => .halt
  | .ldMemHlA => .ldHlR .a
  | .ldAB => .ldRR .a .b
  | .ldAC => .ldRR .a .c
  | .ldAD => .ldRR .a .d
  | .ldAE => .ldRR .a .e
  | .ldAH => .ldRR .a .h
  | .ldAL => .ldRR .a .l
  | .ldAMemHl => .ldRHl .a
  | .ldAA => .ldRR .a .a
  | .addAB => .aluR .add .b
  | .addAC => .aluR .add .c
  | .addAD => .aluR .add .d
  | .addAE => .aluR .add .e
  | .addAH => .aluR .add .h
  | .addAL => .aluR .add .l
  | .addAMemHl => .aluHl .add
  | .addAA => .aluR .add .a
  | .adcAB => .aluR .adc .b
  | .adcAC => .aluR .adc .c
  | .adcAD => .aluR .adc .d
  | .adcAE => .aluR .adc .e
  | .adcAH => .aluR .adc .h
  | .adcAL => .aluR .adc .l
  | .adcAMemHl => .aluHl .adc
  | .adcAA => .aluR .adc .a
  | .subB => .aluR .sub .b
  | .subC => .aluR .sub .c
  | .subD => .aluR .sub .d
  | .subE => .aluR .sub .e
  | .subH => .aluR .sub .h
  | .subL => .aluR .sub .l
  | .subMemHl => .aluHl .sub
  | .subA => .aluR .sub .a
  | .sbcAB => .aluR .sbc .b
  | .sbcAC => .aluR .sbc .c
  | .sbcAD => .aluR .sbc .d
  | .sbcAE => .aluR .sbc .e
  | .sbcAH => .aluR .sbc .h
  | .sbcAL => .aluR .sbc .l
  | .sbcAMemHl => .aluHl .sbc
  | .sbcAA => .aluR .sbc .a
  | .andB => .aluR .and .b
  | .andC => .aluR .and .c
  | .andD => .aluR .and .d
  | .andE => .aluR .and .e
  | .andH => .aluR .and .h
  | .andL => .aluR .and .l
  | .andMemHl => .aluHl .and
  | .andA => .aluR .and .a
  | .xorB => .aluR .xor .b
  | .xorC => .aluR .xor .c
  | .xorD => .aluR .xor .d
  | .xorE => .aluR .xor .e
  | .xorH => .aluR .xor .h
  | .xorL => .aluR .xor .l
  | .xorMemHl => .aluHl .xor
  | .xorA => .aluR .xor .a
  | .orB => .aluR .or .b
  | .orC => .aluR .or .c
  | .orD => .aluR .or .d
  | .orE => .aluR .or .e
  | .orH => .aluR .or .h
  | .orL => .aluR .or .l
  | .orMemHl => .aluHl .or
  | .orA => .aluR .or .a
  | .cpB => .aluR .cp .b
  | .cpC => .aluR .cp .c
  | .cpD => .aluR .cp .d
  | .cpE => .aluR .cp .e
  | .cpH => .aluR .cp .h
  | .cpL => .aluR .cp .l
  | .cpMemHl => .aluHl .cp
  | .cpA => .aluR .cp .a
  | .retNz => .retCc .nz
  | .popBc => .pop .bc
  | .pushBc => .push .bc
  | .rst00 => .rst 0
  | .retZ => .retCc .z
  | .ret => .ret
  | .rst08 => .rst 1
  | .retNc => .retCc .nc
  | .popDe => .pop .de
  | .pushDe => .push .de
  | .rst10 => .rst 2
  | .retC => .retCc .c
  | .exx => .exx
  | .rst18 => .rst 3
  | .retPo => .retCc .po
  | .popHl => .pop .hl
  | .exMemSpHl => .exSpHl
  | .pushHl => .push .hl
  | .rst20 => .rst 4
  | .retPe => .retCc .pe
  | .jpHl => .jpHl
  | .exDeHl => .exDeHl
  | .rst28 => .rst 5
  | .retP => .retCc .p
  | .popAf => .pop .af
  | .di => .di
  | .pushAf => .push .af
  | .rst30 => .rst 6
  | .retM => .retCc .m
  | .ldSpHl => .ldSpHl
  | .ei => .ei
  | .rst38 => .rst 7
  | .rlcB => .shiftR .rlc .b
  | .rlcC => .shiftR .rlc .c
  | .rlcD => .shiftR .rlc .d
  | .rlcE => .shiftR .rlc .e
  | .rlcH => .shiftR .rlc .h
  | .rlcL => .shiftR .rlc .l
  | .rlcMemHl => .shiftHl .rlc
  | .rlcA => .shiftR .rlc .a
  | .rrcB => .shiftR .rrc .b
  | .rrcC => .shiftR .rrc .c
  | .rrcD => .shiftR .rrc .d
  | .rrcE => .shiftR .rrc .e
  | .rrcH => .shiftR .rrc .h
  | .rrcL => .shiftR .rrc .l
  | .rrcMemHl => .shiftHl .rrc
  | .rrcA => .shiftR .rrc .a
  | .rlB => .shiftR .rl .b
  | .rlC => .shiftR .rl .c
  | .rlD => .shiftR .rl .d
  | .rlE => .shiftR .rl .e
  | .rlH => .shiftR .rl .h
  | .rlL => .shiftR .rl .l
  | .rlMemHl => .shiftHl .rl
  | .rlA => .shiftR .rl .a
  | .rrB => .shiftR .rr .b
  | .rrC => .shiftR .rr .c
  | .rrD => .shiftR .rr .d
  | .rrE => .shiftR .rr .e
  | .rrH => .shiftR .rr .h
  | .rrL => .shiftR .rr .l
  | .rrMemHl => .shiftHl .rr
  | .rrA => .shiftR .rr .a
  | .slaB => .shiftR .sla .b
  | .slaC => .shiftR .sla .c
  | .slaD => .shiftR .sla .d
  | .slaE => .shiftR .sla .e
  | .slaH => .shiftR .sla .h
  | .slaL => .shiftR .sla .l
  | .slaMemHl => .shiftHl .sla
  | .slaA => .shiftR .sla .a
  | .sraB => .shiftR .sra .b
  | .sraC => .shiftR .sra .c
  | .sraD => .shiftR .sra .d
  | .sraE => .shiftR .sra .e
  | .sraH => .shiftR .sra .h
  | .sraL => .shiftR .sra .l
  | .sraMemHl => .shiftHl .sra
  | .sraA => .shiftR .sra .a
  | .srlB => .shiftR .srl .b
  | .srlC => .shiftR .srl .c
  | .srlD => .shiftR .srl .d
  | .srlE => .shiftR .srl .e
  | .srlH => .shiftR .srl .h
  | .srlL => .shiftR .srl .l
  | .srlMemHl => .shiftHl .srl
  | .srlA => .shiftR .srl .a
  | .bit0B => .bitR 0 .b
  | .bit0C => .bitR 0 .c
  | .bit0D => .bitR 0 .d
  | .bit0E => .bitR 0 .e
  | .bit0H => .bitR 0 .h
  | .bit0L => .bitR 0 .l
  | .bit0MemHl => .bitHl 0
  | .bit0A => .bitR 0 .a
  | .bit1B => .bitR 1 .b
  | .bit1C => .bitR 1 .c
  | .bit1D => .bitR 1 .d
  | .bit1E => .bitR 1 .e
  | .bit1H => .bitR 1 .h
  | .bit1L => .bitR 1 .l
  | .bit1MemHl => .bitHl 1
  | .bit1A => .bitR 1 .a
  | .bit2B => .bitR 2 .b
  | .bit2C => .bitR 2 .c
  | .bit2D => .bitR 2 .d
  | .bit2E => .bitR 2 .e
  | .bit2H => .bitR 2 .h
  | .bit2L => .bitR 2 .l
  | .bit2MemHl => .bitHl 2
  | .bit2A => .bitR 2 .a
  | .bit3B => .bitR 3 .b
  | .bit3C => .bitR 3 .c
  | .bit3D => .bitR 3 .d
  | .bit3E => .bitR 3 .e
  | .bit3H => .bitR 3 .h
  | .bit3L => .bitR 3 .l
  | .bit3MemHl => .bitHl 3
  | .bit3A => .bitR 3 .a
  | .bit4B => .bitR 4 .b
  | .bit4C => .bitR 4 .c
  | .bit4D => .bitR 4 .d
  | .bit4E => .bitR 4 .e
  | .bit4H => .bitR 4 .h
  | .bit4L => .bitR 4 .l
  | .bit4MemHl => .bitHl 4
  | .bit4A => .bitR 4 .a
  | .bit5B => .bitR 5 .b
  | .bit5C => .bitR 5 .c
  | .bit5D => .bitR 5 .d
  | .bit5E => .bitR 5 .e
  | .bit5H => .bitR 5 .h
  | .bit5L => .bitR 5 .l
  | .bit5MemHl => .bitHl 5
  | .bit5A => .bitR 5 .a
  | .bit6B => .bitR 6 .b
  | .bit6C => .bitR 6 .c
  | .bit6D => .bitR 6 .d
  | .bit6E => .bitR 6 .e
  | .bit6H => .bitR 6 .h
  | .bit6L => .bitR 6 .l
  | .bit6MemHl => .bitHl 6
  | .bit6A => .bitR 6 .a
  | .bit7B => .bitR 7 .b
  | .bit7C => .bitR 7 .c
  | .bit7D => .bitR 7 .d
  | .bit7E => .bitR 7 .e
  | .bit7H => .bitR 7 .h
  | .bit7L => .bitR 7 .l
  | .bit7MemHl => .bitHl 7
  | .bit7A => .bitR 7 .a
  | .res0B => .resR 0 .b
  | .res0C => .resR 0 .c
  | .res0D => .resR 0 .d
  | .res0E => .resR 0 .e
  | .res0H => .resR 0 .h
  | .res0L => .resR 0 .l
  | .res0MemHl => .resHl 0
  | .res0A => .resR 0 .a
  | .res1B => .resR 1 .b
  | .res1C => .resR 1 .c
  | .res1D => .resR 1 .d
  | .res1E => .resR 1 .e
  | .res1H => .resR 1 .h
  | .res1L => .resR 1 .l
  | .res1MemHl => .resHl 1
  | .res1A => .resR 1 .a
  | .res2B => .resR 2 .b
  | .res2C => .resR 2 .c
  | .res2D => .resR 2 .d
  | .res2E => .resR 2 .e
  | .res2H => .resR 2 .h
  | .res2L => .resR 2 .l
  | .res2MemHl => .resHl 2
  | .res2A => .resR 2 .a
  | .res3B => .resR 3 .b
  | .res3C => .resR 3 .c
  | .res3D => .resR 3 .d
  | .res3E => .resR 3 .e
  | .res3H => .resR 3 .h
  | .res3L => .resR 3 .l
  | .res3MemHl => .resHl 3
  | .res3A => .resR 3 .a
  | .res4B => .resR 4 .b
  | .res4C => .resR 4 .c
  | .res4D => .resR 4 .d
  | .res4E => .resR 4 .e
  | .res4H => .resR 4 .h
  | .res4L => .resR 4 .l
  | .res4MemHl => .resHl 4
  | .res4A => .resR 4 .a
  | .res5B => .resR 5 .b
  | .res5C => .resR 5 .c
  | .res5D => .resR 5 .d
  | .res5E => .resR 5 .e
  | .res5H => .resR 5 .h
  | .res5L => .resR 5 .l
  | .res5MemHl => .resHl 5
  | .res5A => .resR 5 .a
  | .res6B => .resR 6 .b
  | .res6C => .resR 6 .c
  | .res6D => .resR 6 .d
  | .res6E => .resR 6 .e
  | .res6H => .resR 6 .h
  | .res6L => .resR 6 .l
  | .res6MemHl => .resHl 6
  | .res6A => .resR 6 .a
  | .res7B => .resR 7 .b
  | .res7C => .resR 7 .c
  | .res7D => .resR 7 .d
  | .res7E => .resR 7 .e
  | .res7H => .resR 7 .h
  | .res7L => .resR 7 .l
  | .res7MemHl => .resHl 7
  | .res7A => .resR 7 .a
  | .set0B => .setR 0 .b
  | .set0C => .setR 0 .c
  | .set0D => .setR 0 .d
  | .set0E => .setR 0 .e
  | .set0H => .setR 0 .h
  | .set0L => .setR 0 .l
  | .set0MemHl => .setHl 0
  | .set0A => .setR 0 .a
  | .set1B => .setR 1 .b
  | .set1C => .setR 1 .c
  | .set1D => .setR 1 .d
  | .set1E => .setR 1 .e
  | .set1H => .setR 1 .h
  | .set1L => .setR 1 .l
  | .set1MemHl => .setHl 1
  | .set1A => .setR 1 .a
  | .set2B => .setR 2 .b
  | .set2C => .setR 2 .c
  | .set2D => .setR 2 .d
  | .set2E => .setR 2 .e
  | .set2H => .setR 2 .h
  | .set2L => .setR 2 .l
  | .set2MemHl => .setHl 2
  | .set2A => .setR 2 .a
  | .set3B => .setR 3 .b
  | .set3C => .setR 3 .c
  | .set3D => .setR 3 .d
  | .set3E => .setR 3 .e
  | .set3H => .setR 3 .h
  | .set3L => .setR 3 .l
  | .set3MemHl => .setHl 3
  | .set3A => .setR 3 .a
  | .set4B => .setR 4 .b
  | .set4C => .setR 4 .c
  | .set4D => .setR 4 .d
  | .set4E => .setR 4 .e
  | .set4H => .setR 4 .h
  | .set4L => .setR 4 .l
  | .set4MemHl => .setHl 4
  | .set4A => .setR 4 .a
  | .set5B => .setR 5 .b
  | .set5C => .setR 5 .c
  | .set5D => .setR 5 .d
  | .set5E => .setR 5 .e
  | .set5H => .setR 5 .h
  | .set5L => .setR 5 .l
  | .set5MemHl => .setHl 5
  | .set5A => .setR 5 .a
  | .set6B => .setR 6 .b
  | .set6C => .setR 6 .c
  | .set6D => .setR 6 .d
  | .set6E => .setR 6 .e
  | .set6H => .setR 6 .h
  | .set6L => .setR 6 .l
  | .set6MemHl => .setHl 6
  | .set6A => .setR 6 .a
  | .set7B => .setR 7 .b
  | .set7C => .setR 7 .c
  | .set7D => .setR 7 .d
  | .set7E => .setR 7 .e
  | .set7H => .setR 7 .h
  | .set7L => .setR 7 .l
  | .set7MemHl => .setHl 7
  | .set7A => .setR 7 .a
  | .addIxBc => .addXy .ix .bc
  | .addIxDe => .addXy .ix .de
  | .addIxIx => .addXy .ix .self
  | .addIxSp => .addXy .ix .sp
  | .incIx => .incXy .ix
  | .decIx => .decXy .ix
  | .popIx => .popXy .ix
  | .exMemSpIx => .exSpXy .ix
  | .pushIx => .pushXy .ix
  | .jpIx => .jpXy .ix
  | .ldSpIx => .ldSpXy .ix
  | .addIyBc => .addXy .iy .bc
  | .addIyDe => .addXy .iy .de
  | .addIyIy => .addXy .iy .self
  | .addIySp => .addXy .iy .sp
  | .incIy => .incXy .iy
  | .decIy => .decXy .iy
  | .popIy => .popXy .iy
  | .exMemSpIy => .exSpXy .iy
  | .pushIy => .pushXy .iy
  | .jpIy => .jpXy .iy
  | .ldSpIy => .ldSpXy .iy
  | .inBPortC => .inRC .b
  | .outPortCB => .outCR .b
  | .inCPortC => .inRC .c
  | .outPortCC => .outCR .c
  | .inDPortC => .inRC .d
  | .outPortCD => .outCR .d
  | .inEPortC => .inRC .e
  | .outPortCE => .outCR .e
  | .inHPortC => .inRC .h
  | .outPortCH => .outCR .h
  | .inLPortC => .inRC .l
  | .outPortCL => .outCR .l
  | .inAPortC => .inRC .a
  | .outPortCA => .outCR .a
  | .sbcHlBc => .sbcHl .bc
  | .adcHlBc => .adcHl .bc
  | .sbcHlDe => .sbcHl .de
  | .adcHlDe => .adcHl .de
  | .sbcHlHl => .sbcHl .hl
  | .adcHlHl => .adcHl .hl
  | .sbcHlSp => .sbcHl .sp
  | .adcHlSp => .adcHl .sp
  | .neg => .neg
  | .retn => .retn
  | .im0 => .im .im0
  | .ldIA => .ldIA
  | .reti => .reti
  | .ldRA => .ldRA
  | .im1 => .im .im1
  | .ldAI => .ldAI
  | .im2 => .im .im2
  | .ldAR => .ldAR
  | .rrd => .rrd
  | .rld => .rld
  | .ldi => .ldBlock .up false
  | .cpi => .cpBlock .up false
  | .ini => .inBlock .up false
  | .outi => .outBlock .up false
  | .ldd => .ldBlock .down false
  | .cpd => .cpBlock .down false
  | .ind => .inBlock .down false
  | .outd => .outBlock .down false
  | .ldir => .ldBlock .up true
  | .cpir => .cpBlock .up true
  | .inir => .inBlock .up true
  | .otir => .outBlock .up true
  | .lddr => .ldBlock .down true
  | .cpdr => .cpBlock .down true
  | .indr => .inBlock .down true
  | .otdr => .outBlock .down true

end Sys2Proof
end

