-- ==== Sys2Proof/Machine/Strict.lean ====
section
/-! DEFINITION. The step under the spec's rule on unwritten registers (R54, R509). `step` itself lets a register that
nothing has written hold its reset value, so that a program can run from reset (log entry 1); `strictStep` is the
same step with the fault UnwrittenRegister, raised at the point of the read. -/

namespace Sys2Proof.Machine

/-- A register that carries a mark (R54): an 8-bit register of the main bank, a bit of F by its number, SP, an index
register. The shadow registers are never read by an instruction but by an exchange, which does not fault. -/
inductive Marked where
  | reg (r : Reg8)
  | flag (bit : Fin 8)
  | sp
  | index (x : Index)
  deriving DecidableEq, Repr

/-- The name recorded (R509). -/
def Marked.name : Marked → String
  | .reg .a => "A"
  | .reg .b => "B"
  | .reg .c => "C"
  | .reg .d => "D"
  | .reg .e => "E"
  | .reg .h => "H"
  | .reg .l => "L"
  | .flag 7 => "F.S"
  | .flag 6 => "F.Z"
  | .flag 5 => "F.b5"
  | .flag 4 => "F.H"
  | .flag 3 => "F.b3"
  | .flag 2 => "F.PV"
  | .flag 1 => "F.N"
  | .flag 0 => "F.C"
  | .sp => "SP"
  | .index .ix => "IX"
  | .index .iy => "IY"

/-- The mark (R54). -/
def State.marked (s : State) : Marked → Bool
  | .reg r => s.main.written.get r
  | .flag b => s.main.written.f.toByte.getLsbD b.val
  | .sp => s.written.sp
  | .index .ix => s.written.ix
  | .index .iy => s.written.iy

/-- The halves of a pair, the high register first. -/
def Pair.marks : Pair → List Marked
  | .bc => [.reg .b, .reg .c]
  | .de => [.reg .d, .reg .e]
  | .hl => [.reg .h, .reg .l]
  | .sp => [.sp]

/-- The halves of a stack pair; AF is A and the eight bits of F (R54). -/
def StackPair.marks : StackPair → List Marked
  | .bc => [.reg .b, .reg .c]
  | .de => [.reg .d, .reg .e]
  | .hl => [.reg .h, .reg .l]
  | .af => [.reg .a, .flag 7, .flag 6, .flag 5, .flag 4, .flag 3, .flag 2, .flag 1, .flag 0]

/-- The registers of the operand of ADD XY,pp. -/
def IndexPair.marks (x : Index) : IndexPair → List Marked
  | .bc => [.reg .b, .reg .c]
  | .de => [.reg .d, .reg .e]
  | .self => [.index x]
  | .sp => [.sp]

/-- The flag a condition reads (R400). -/
def Cond.mark : Cond → Marked
  | .nz => .flag 6
  | .z => .flag 6
  | .nc => .flag 0
  | .c => .flag 0
  | .po => .flag 2
  | .pe => .flag 2
  | .p => .flag 7
  | .m => .flag 7

/-- ADC and SBC read the carry. -/
def AluOp.marks : AluOp → List Marked
  | .add => []
  | .adc => [.flag 0]
  | .sub => []
  | .sbc => [.flag 0]
  | .and => []
  | .xor => []
  | .or => []
  | .cp => []

/-- RL and RR read the carry. -/
def ShiftOp.marks : ShiftOp → List Marked
  | .rlc => []
  | .rrc => []
  | .rl => [.flag 0]
  | .rr => [.flag 0]
  | .sla => []
  | .sra => []
  | .srl => []

/-- HL. -/
def marksHl : List Marked := Pair.marks .hl

/-- The registers an instruction reads before its first access, between its first access and its second, and after its
last, in the order of its rule's pseudocode (R54, R509). -/
structure Reads where
  before : List Marked
  between : List Marked
  after : List Marked
  deriving DecidableEq, Repr

/-- Reads that all come before any access. -/
def Reads.first (l : List Marked) : Reads := { before := l, between := [], after := [] }

/-- The reads of an instruction (R54); `s` decides whether a conditional call or return touches SP. -/
def readsOf (f : Family) (s : State) : Reads :=
  match f with
  | .ldRR _ src => .first [.reg src]
  | .ldRN _ _ => .first []
  | .ldRHl _ => .first marksHl
  | .ldRIdx _ x _ => .first [.index x]
  | .ldHlR r => .first (marksHl ++ [.reg r])
  | .ldIdxR x _ r => .first [.index x, .reg r]
  | .ldHlN _ => .first marksHl
  | .ldIdxN x _ _ => .first [.index x]
  | .ldABc => .first (Pair.marks .bc)
  | .ldADe => .first (Pair.marks .de)
  | .ldANn _ => .first []
  | .ldBcA => .first (Pair.marks .bc ++ [.reg .a])
  | .ldDeA => .first (Pair.marks .de ++ [.reg .a])
  | .ldNnA _ => .first [.reg .a]
  | .ldAI => .first []
  | .ldAR => .first []
  | .ldIA => .first [.reg .a]
  | .ldRA => .first [.reg .a]
  | .ldDdNn _ _ => .first []
  | .ldXyNn _ _ => .first []
  | .ldHlFrom _ => .first []
  | .ldDdFrom _ _ => .first []
  | .ldXyFrom _ _ => .first []
  | .ldNnHl _ => .first marksHl
  | .ldNnDd _ dd => .first dd.marks
  | .ldNnXy _ x => .first [.index x]
  | .ldSpHl => .first marksHl
  | .ldSpXy x => .first [.index x]
  | .push q => .first (q.marks ++ [.sp])
  | .pushXy x => .first [.index x, .sp]
  | .pop _ => .first [.sp]
  | .popXy _ => .first [.sp]
  | .exDeHl => .first []
  | .exAf => .first []
  | .exx => .first []
  | .exSpHl => { before := [.sp], between := marksHl, after := [] }
  | .exSpXy x => { before := [.sp], between := [.index x], after := [] }
  | .ldBlock _ _ => { before := marksHl, between := Pair.marks .de, after := Pair.marks .bc }
  | .cpBlock _ _ => { before := marksHl, between := .reg .a :: Pair.marks .bc, after := [] }
  | .aluR op r => .first ([.reg r, .reg .a] ++ op.marks)
  | .aluN op _ => .first (.reg .a :: op.marks)
  | .aluHl op => { before := marksHl, between := .reg .a :: op.marks, after := [] }
  | .aluIdx op x _ => { before := [.index x], between := .reg .a :: op.marks, after := [] }
  | .incR r => .first [.reg r]
  | .incHl => .first marksHl
  | .incIdx x _ => .first [.index x]
  | .decR r => .first [.reg r]
  | .decHl => .first marksHl
  | .decIdx x _ => .first [.index x]
  | .daa => .first [.reg .a, .flag 0, .flag 4, .flag 1]
  | .cpl => .first [.reg .a]
  | .neg => .first [.reg .a]
  | .ccf => .first [.flag 0]
  | .scf => .first []
  | .nop => .first []
  | .halt => .first []
  | .di => .first []
  | .ei => .first []
  | .im _ => .first []
  | .addHl p => .first (marksHl ++ p.marks)
  | .adcHl p => .first (marksHl ++ p.marks ++ [.flag 0])
  | .sbcHl p => .first (marksHl ++ p.marks ++ [.flag 0])
  | .addXy x p => .first (.index x :: p.marks x)
  | .incSs p => .first p.marks
  | .incXy x => .first [.index x]
  | .decSs p => .first p.marks
  | .decXy x => .first [.index x]
  | .rotA op => .first (.reg .a :: op.marks)
  | .shiftR op r => .first (.reg r :: op.marks)
  | .shiftHl op => { before := marksHl, between := op.marks, after := [] }
  | .shiftIdx op x _ => { before := [.index x], between := op.marks, after := [] }
  | .rld => { before := marksHl, between := [.reg .a], after := [] }
  | .rrd => { before := marksHl, between := [.reg .a], after := [] }
  | .bitR _ r => .first [.reg r]
  | .bitHl _ => .first marksHl
  | .bitIdx _ x _ => .first [.index x]
  | .setR _ r => .first [.reg r]
  | .setHl _ => .first marksHl
  | .setIdx _ x _ => .first [.index x]
  | .resR _ r => .first [.reg r]
  | .resHl _ => .first marksHl
  | .resIdx _ x _ => .first [.index x]
  | .jp _ => .first []
  | .jpCc cc _ => .first [cc.mark]
  | .jr _ => .first []
  | .jrCc cc _ => .first [cc.mark]
  | .jpHl => .first marksHl
  | .jpXy x => .first [.index x]
  | .djnz _ => .first [.reg .b]
  | .call _ => .first [.sp]
  | .callCc cc _ => .first (cc.mark :: if s.cond cc then [.sp] else [])
  | .ret => .first [.sp]
  | .retCc cc => .first (cc.mark :: if s.cond cc then [.sp] else [])
  | .reti => .first [.sp]
  | .retn => .first [.sp]
  | .rst _ => .first [.sp]
  | .inAN _ => .first []
  | .inRC _ => .first [.reg .c]
  | .inBlock _ _ => { before := [.reg .c], between := marksHl, after := [.reg .b] }
  | .outNA _ => .first [.reg .a]
  | .outCR r => .first [.reg .c, .reg r]
  | .outBlock _ _ => { before := marksHl, between := [.reg .b, .reg .c], after := [] }

/-- The first access of an instruction that reads registers after it; any other instruction performs none here. -/
def firstAccess (f : Family) (s : State) : Out State :=
  match f with
  | .exSpHl | .exSpXy _ => withValue (memRead16 s.sp s) fun _ s1 => .next s1
  | .ldBlock _ _ | .cpBlock _ _ | .aluHl _ | .shiftHl _ | .rld | .rrd | .outBlock _ _ =>
    withValue (memRead s.hl s) fun _ s1 => .next s1
  | .aluIdx _ x d | .shiftIdx _ x d => withValue (memRead (s.ea x d) s) fun _ s1 => .next s1
  | .inBlock _ _ => withValue (ioRead s.main.c s) fun _ s1 => .next s1
  | _ => .next s

/-- The fault for the first register of the list that is unwritten in `s`, if any (R509). -/
def unwrittenIn (l : List Marked) (s : State) (pc0 : Word) (bus : Bus) : Option Fault :=
  (l.find? (fun m => !s.marked m)).map (fun m => .unwrittenRegister m.name pc0 bus)

/-- An instruction under R509: the first failure in the order of the pseudocode, of a register read or of an access,
ends it (R504, R506). -/
def strictExec (i : Instr) (s : State) : Out State :=
  match unwrittenIn (readsOf i.family s).before s s.pc s.bus with
  | some r => .fault r
  | none =>
    afterwards (firstAccess i.family s) fun s1 =>
      match unwrittenIn (readsOf i.family s).between s s.pc s1.bus with
      | some r => .fault r
      | none =>
        afterwards (exec i s) fun t =>
          match unwrittenIn (readsOf i.family s).after s s.pc t.bus with
          | some r => .fault r
          | none => .next t

/-- The acceptance that `acceptInterrupt` performs reads SP, but for a mode-0 acceptance that fails on its data byte
before it pushes (R509, R514). -/
def strictAccept (s : State) : Out State :=
  if !nmiDue s && s.im == .im0 && !isRst s.lines.intData then acceptInterrupt s
  else
    match unwrittenIn [.sp] s s.pc s.bus with
    | some r => .fault r
    | none => acceptInterrupt s

/-- One step under R509. -/
def strictStep (s : State) : Out State :=
  match s.fault with
  | some m => .fault (.afterFailure m)
  | none =>
    if nmiDue s || intDue s then strictAccept s
    else if s.halted then haltedCall s
    else withValue (fetch s) fun x s1 => strictExec x.1 (s1.begin x.2)

end Sys2Proof.Machine
end

