-- ==== Sys2Proof/Machine/Timing.lean ====
section
/-! DEFINITION. The nominal cycle count an engine call returns, at its natural value (R580, R581). No step reads it. -/

namespace Sys2Proof.Machine

/-- The T-states of R581; `again` says that a branch is taken or a step repeats. -/
def cycles (f : Family) (again : Bool) : Nat :=
  match f with
  | .ldRR _ _ => 4
  | .ldRN _ _ => 7
  | .ldRHl _ => 7
  | .ldRIdx _ _ _ => 19
  | .ldHlR _ => 7
  | .ldIdxR _ _ _ => 19
  | .ldHlN _ => 10
  | .ldIdxN _ _ _ => 19
  | .ldABc => 7
  | .ldADe => 7
  | .ldANn _ => 13
  | .ldBcA => 7
  | .ldDeA => 7
  | .ldNnA _ => 13
  | .ldAI => 9
  | .ldAR => 9
  | .ldIA => 9
  | .ldRA => 9
  | .ldDdNn _ _ => 10
  | .ldXyNn _ _ => 14
  | .ldHlFrom _ => 16
  | .ldDdFrom _ _ => 20
  | .ldXyFrom _ _ => 20
  | .ldNnHl _ => 16
  | .ldNnDd _ _ => 20
  | .ldNnXy _ _ => 20
  | .ldSpHl => 6
  | .ldSpXy _ => 10
  | .push _ => 11
  | .pushXy _ => 15
  | .pop _ => 10
  | .popXy _ => 14
  | .exDeHl => 4
  | .exAf => 4
  | .exx => 4
  | .exSpHl => 19
  | .exSpXy _ => 23
  | .ldBlock _ _ => if again then 21 else 16
  | .cpBlock _ _ => if again then 21 else 16
  | .aluR _ _ => 4
  | .aluN _ _ => 7
  | .aluHl _ => 7
  | .aluIdx _ _ _ => 19
  | .incR _ => 4
  | .incHl => 11
  | .incIdx _ _ => 23
  | .decR _ => 4
  | .decHl => 11
  | .decIdx _ _ => 23
  | .daa => 4
  | .cpl => 4
  | .neg => 8
  | .ccf => 4
  | .scf => 4
  | .nop => 4
  | .halt => 4
  | .di => 4
  | .ei => 4
  | .im _ => 8
  | .addHl _ => 11
  | .adcHl _ => 15
  | .sbcHl _ => 15
  | .addXy _ _ => 15
  | .incSs _ => 6
  | .incXy _ => 10
  | .decSs _ => 6
  | .decXy _ => 10
  | .rotA _ => 4
  | .shiftR _ _ => 8
  | .shiftHl _ => 15
  | .shiftIdx _ _ _ => 23
  | .rld => 18
  | .rrd => 18
  | .bitR _ _ => 8
  | .bitHl _ => 12
  | .bitIdx _ _ _ => 20
  | .setR _ _ => 8
  | .setHl _ => 15
  | .setIdx _ _ _ => 23
  | .resR _ _ => 8
  | .resHl _ => 15
  | .resIdx _ _ _ => 23
  | .jp _ => 10
  | .jpCc _ _ => 10
  | .jr _ => 12
  | .jrCc _ _ => if again then 12 else 7
  | .jpHl => 4
  | .jpXy _ => 8
  | .djnz _ => if again then 13 else 8
  | .call _ => 17
  | .callCc _ _ => if again then 17 else 10
  | .ret => 10
  | .retCc _ => if again then 11 else 5
  | .reti => 14
  | .retn => 14
  | .rst _ => 11
  | .inAN _ => 11
  | .inRC _ => 12
  | .inBlock _ _ => if again then 21 else 16
  | .outNA _ => 11
  | .outCR _ => 12
  | .outBlock _ _ => if again then 21 else 16

/-- Whether the branch is taken, from the state before, or the step repeats, from the state `t` after (R580). -/
def again (f : Family) (s t : State) : Bool :=
  match f with
  | .jpCc cc _ | .jrCc cc _ | .callCc cc _ | .retCc cc => s.cond cc
  | .djnz _ => decide (t.main.b ≠ 0)
  | .ldBlock _ rep => rep && decide (t.bc ≠ 0)
  | .cpBlock _ rep => rep && decide (t.bc ≠ 0) && !t.main.f.z
  | .inBlock _ rep | .outBlock _ rep => rep && decide (t.main.b ≠ 0)
  | _ => false

/-- An engine call with the count it returns (R580): the count of NOP while halted. -/
def engineCallCycles (s : State) : Out (Nat × State) :=
  match s.fault with
  | some m => .fault (.afterFailure m)
  | none =>
    if s.halted then afterwards (haltedCall s) fun t => .next (4, t)
    else withValue (fetch s) fun x s1 =>
      afterwards (exec x.1 (s1.begin x.2)) fun t => .next (cycles x.1.family (again x.1.family (s1.begin x.2) t), t)

/-- The count of an interrupt acceptance: NMI 11, INT 13 in modes 0 and 1, 19 in mode 2 (R581). -/
def acceptanceCycles (s : State) : Nat :=
  if nmiDue s then 11
  else match s.im with
    | .im0 => 13
    | .im1 => 13
    | .im2 => 19

end Sys2Proof.Machine
end

