-- ==== Sys2Proof/Safety.lean ====
section
/-! DEFINITION. The terms the statements use: when an access can be served and what it answers, the accesses of each
instruction (R86), when an instruction completes, what it leaves unchanged, the invariants of a run. -/

namespace Sys2Proof.Machine

/-! ### Numbers (R8) -/

/-- `trunc8(v)` (R8). -/
def trunc8 (v : Int) : Byte := BitVec.ofInt 8 v

/-- `trunc16(v)` (R8). -/
def trunc16 (v : Int) : Word := BitVec.ofInt 16 v

/-! ### One access, as the regions decide it -/

/-- Why a read at the place fails, if it does (R73, R78). -/
def Bus.readError (b : Bus) (p : Place) : Option BusErrorKind :=
  match b.regionAt p with
  | none => some .unmapped
  | some g => if g.readable then none else some .notReadable

/-- Why a write at the place fails, if it does (R74, R78). -/
def Bus.writeError (b : Bus) (p : Place) : Option BusErrorKind :=
  match b.regionAt p with
  | none => some .unmapped
  | some g => if g.writable then none else some .notWritable

/-- The place is served by a device region (R79). -/
def Bus.isDevice (b : Bus) (p : Place) : Bool :=
  match b.regionAt p with
  | none => false
  | some g => g.kind == .device

/-- What a read at the place answers: the stored byte, or a device's free byte (R79). -/
def State.readValue (s : State) (p : Place) : Byte :=
  if s.bus.isDevice p then Config.freeByte s.draws else s.bus.stored p

/-- The state after a read at the place: a device region has seen it, and it took a draw (R80). -/
def State.sawRead (s : State) (p : Place) : State :=
  if s.bus.isDevice p then
    { s with draws := s.draws + 1, bus := s.bus.note (.read p (Config.freeByte s.draws)) }
  else s

/-- The state after a write at the place: the byte is stored, or a device region has seen it (R80). -/
def State.sawWrite (s : State) (p : Place) (v : Byte) : State :=
  { s with bus := if s.bus.isDevice p then s.bus.note (.write p v) else s.bus.store p v }

/-- What a 16-bit read answers, the low byte read first (R75). -/
def State.readWord (s : State) (a : Word) : Word :=
  cat ((s.sawRead (.mem a)).readValue (.mem (a + 1))) (s.readValue (.mem a))

/-- The state after a 16-bit read (R75). -/
def State.sawReadWord (s : State) (a : Word) : State := (s.sawRead (.mem a)).sawRead (.mem (a + 1))

/-- The state after a 16-bit write, the low byte first (R76). -/
def State.sawWriteWord (s : State) (a v : Word) : State :=
  (s.sawWrite (.mem a) (lo v)).sawWrite (.mem (a + 1)) (hi v)

/-! ### The accesses of an instruction (R86) -/

/-- An access wanted: a read, or a write of a byte. -/
inductive Want where
  | read (p : Place)
  | write (p : Place) (v : Byte)
  deriving DecidableEq, Repr

/-- The place of the byte access. -/
def Want.place : Want → Place
  | .read p => p
  | .write p _ => p

/-- Why it fails, if it does. -/
def Bus.error (b : Bus) : Want → Option BusErrorKind
  | .read p => b.readError p
  | .write p _ => b.writeError p

/-- The first access of a list that fails, with its kind (R504). -/
def firstError (b : Bus) : List Want → Option (BusErrorKind × Place)
  | [] => none
  | w :: rest =>
    match b.error w with
    | some k => some (k, w.place)
    | none => firstError b rest

/-- The accesses of a list before the first that fails (R504). -/
def served (b : Bus) : List Want → List Want
  | [] => []
  | w :: rest =>
    match b.error w with
    | some _ => []
    | none => w :: served b rest

/-- The state after one access. -/
def State.saw (s : State) : Want → State
  | .read p => s.sawRead p
  | .write p v => s.sawWrite p v

/-- The state after a list of accesses, each performed once and in order (R80). -/
def State.sees (s : State) : List Want → State
  | [] => s
  | w :: rest => (s.saw w).sees rest

/-- One 8-bit memory read. -/
def wantRead (a : Word) : List Want := [.read (.mem a)]

/-- One 8-bit memory write. -/
def wantWrite (a : Word) (v : Byte) : List Want := [.write (.mem a) v]

/-- One 16-bit memory read, low byte first. -/
def wantRead16 (a : Word) : List Want := [.read (.mem a), .read (.mem (a + 1))]

/-- One 16-bit memory write, low byte first. -/
def wantWrite16 (a v : Word) : List Want := [.write (.mem a) (lo v), .write (.mem (a + 1)) (hi v)]

/-- A push: a 16-bit write below SP (R84). -/
def wantPush (v : Word) (s : State) : List Want := wantWrite16 (s.sp - 2) v

/-- One 8-bit read, then one 8-bit write of what `g` makes of it to the same address. -/
def wantUpdate (g : Byte → Byte) (a : Word) (s : State) : List Want :=
  wantRead a ++ wantWrite a (g (s.readValue (.mem a)))

/-- The data accesses of each instruction, in order, with the bytes written (R86), from the state before it. -/
def accesses (f : Family) (s : State) : List Want :=
  match f with
  | .ldRHl _ => wantRead s.hl
  | .ldRIdx _ x d => wantRead (s.ea x d)
  | .ldHlR r => wantWrite s.hl (s.reg8 r)
  | .ldIdxR x d r => wantWrite (s.ea x d) (s.reg8 r)
  | .ldHlN n => wantWrite s.hl n
  | .ldIdxN x d n => wantWrite (s.ea x d) n
  | .ldABc => wantRead s.bc
  | .ldADe => wantRead s.de
  | .ldANn nn => wantRead nn
  | .ldBcA => wantWrite s.bc s.main.a
  | .ldDeA => wantWrite s.de s.main.a
  | .ldNnA nn => wantWrite nn s.main.a
  | .ldHlFrom nn => wantRead16 nn
  | .ldDdFrom _ nn => wantRead16 nn
  | .ldXyFrom _ nn => wantRead16 nn
  | .ldNnHl nn => wantWrite16 nn s.hl
  | .ldNnDd nn dd => wantWrite16 nn (s.pair dd)
  | .ldNnXy nn x => wantWrite16 nn (s.index x)
  | .push q => wantPush (s.stackPair q) s
  | .pushXy x => wantPush (s.index x) s
  | .pop _ => wantRead16 s.sp
  | .popXy _ => wantRead16 s.sp
  | .exSpHl => wantRead16 s.sp ++ wantWrite16 s.sp s.hl
  | .exSpXy x => wantRead16 s.sp ++ wantWrite16 s.sp (s.index x)
  | .ldBlock _ _ => wantRead s.hl ++ wantWrite s.de (s.readValue (.mem s.hl))
  | .cpBlock _ _ => wantRead s.hl
  | .aluHl _ => wantRead s.hl
  | .aluIdx _ x d => wantRead (s.ea x d)
  | .incHl => wantUpdate (fun v => v + 1) s.hl s
  | .incIdx x d => wantUpdate (fun v => v + 1) (s.ea x d) s
  | .decHl => wantUpdate (fun v => v - 1) s.hl s
  | .decIdx x d => wantUpdate (fun v => v - 1) (s.ea x d) s
  | .shiftHl op => wantUpdate (fun v => (op.shift v s.main.f.c).1) s.hl s
  | .shiftIdx op x d => wantUpdate (fun v => (op.shift v s.main.f.c).1) (s.ea x d) s
  | .rld => wantUpdate (fun v => (rldDigits s.main.a v).2) s.hl s
  | .rrd => wantUpdate (fun v => (rrdDigits s.main.a v).2) s.hl s
  | .bitHl _ => wantRead s.hl
  | .bitIdx _ x d => wantRead (s.ea x d)
  | .setHl b => wantUpdate (setBit b) s.hl s
  | .setIdx b x d => wantUpdate (setBit b) (s.ea x d) s
  | .resHl b => wantUpdate (resBit b) s.hl s
  | .resIdx b x d => wantUpdate (resBit b) (s.ea x d) s
  | .call _ => wantPush (s.pc + 3) s
  | .callCc cc _ => if s.cond cc then wantPush (s.pc + 3) s else []
  | .ret => wantRead16 s.sp
  | .retCc cc => if s.cond cc then wantRead16 s.sp else []
  | .reti => wantRead16 s.sp
  | .retn => wantRead16 s.sp
  | .rst _ => wantPush (s.pc + 1) s
  | .inAN n => [.read (.io n)]
  | .inRC _ => [.read (.io s.main.c)]
  | .inBlock _ _ => .read (.io s.main.c) :: wantWrite s.hl (s.readValue (.io s.main.c))
  | .outNA n => [.write (.io n) s.main.a]
  | .outCR r => [.write (.io s.main.c) (s.reg8 r)]
  | .outBlock _ _ => wantRead s.hl ++ [.write (.io s.main.c) (s.readValue (.mem s.hl))]
  | .ldRR _ _ => []
  | .ldRN _ _ => []
  | .ldAI => []
  | .ldAR => []
  | .ldIA => []
  | .ldRA => []
  | .ldDdNn _ _ => []
  | .ldXyNn _ _ => []
  | .ldSpHl => []
  | .ldSpXy _ => []
  | .exDeHl => []
  | .exAf => []
  | .exx => []
  | .aluR _ _ => []
  | .aluN _ _ => []
  | .incR _ => []
  | .decR _ => []
  | .daa => []
  | .cpl => []
  | .neg => []
  | .ccf => []
  | .scf => []
  | .nop => []
  | .halt => []
  | .di => []
  | .ei => []
  | .im _ => []
  | .addHl _ => []
  | .adcHl _ => []
  | .sbcHl _ => []
  | .addXy _ _ => []
  | .incSs _ => []
  | .incXy _ => []
  | .decSs _ => []
  | .decXy _ => []
  | .rotA _ => []
  | .shiftR _ _ => []
  | .bitR _ _ => []
  | .setR _ _ => []
  | .resR _ _ => []
  | .jp _ => []
  | .jpCc _ _ => []
  | .jr _ => []
  | .jrCc _ _ => []
  | .jpHl => []
  | .jpXy _ => []
  | .djnz _ => []

/-- Every access of the instruction can be served: a condition on the state and the operands alone. -/
def Completes (i : Instr) (s : State) : Prop := firstError s.bus (accesses i.family s) = none

/-- `next = trunc16(PC0 + len)` (R12). -/
def nextPc (i : Instr) (s : State) : Word := trunc16 (s.pc.toNat + (encode i).length)

/-! ### What an instruction leaves unchanged -/

/-- What may change of the registers, the flags and the stored bytes. -/
structure Changed where
  regs : List Reg8
  flags : Bool
  index : List Index
  sp : Bool
  bytes : List Place
  deriving DecidableEq, Repr

/-- Nothing. -/
def Changed.none : Changed := { regs := [], flags := false, index := [], sp := false, bytes := [] }

/-- The registers a pair is a view of (R33); SP is none of them. -/
def Pair.regs : Pair → List Reg8
  | .bc => [.b, .c]
  | .de => [.d, .e]
  | .hl => [.h, .l]
  | .sp => []

/-- What a write to a pair or to SP changes. -/
def Pair.changed (p : Pair) : Changed := { Changed.none with regs := p.regs, sp := p == .sp }

/-- What POP changes: the pair, or A and F, and SP (R182). -/
def StackPair.changed : StackPair → Changed
  | .bc => { Changed.none with regs := [.b, .c], sp := true }
  | .de => { Changed.none with regs := [.d, .e], sp := true }
  | .hl => { Changed.none with regs := [.h, .l], sp := true }
  | .af => { Changed.none with regs := [.a], flags := true, sp := true }

/-- The registers, the flags and the stored bytes outside `c` are as before, and so are the regions and the host's
inputs. -/
structure Frame (c : Changed) (s t : State) : Prop where
  regs : ∀ r, r ∉ c.regs → t.reg8 r = s.reg8 r
  flags : c.flags = false → t.main.f = s.main.f
  index : ∀ x, x ∉ c.index → t.index x = s.index x
  sp : c.sp = false → t.sp = s.sp
  bytes : ∀ p, p ∉ c.bytes → t.bus.stored p = s.bus.stored p
  memRegions : t.bus.memRegions = s.bus.memRegions
  ioRegions : t.bus.ioRegions = s.bus.ioRegions
  lines : t.lines = s.lines

/-- The shadow bank, every control register and hidden mark, and the use of the boundary are as before. -/
structure ControlFrame (s t : State) : Prop where
  shadow : t.shadow = s.shadow
  i : t.i = s.i
  r : t.r = s.r
  iff1 : t.iff1 = s.iff1
  iff2 : t.iff2 = s.iff2
  im : t.im = s.im
  halted : t.halted = s.halted
  eiShadow : t.eiShadow = s.eiShadow
  boundaryUsed : t.boundaryUsed = s.boundaryUsed
  fault : t.fault = s.fault

/-- The six named flags (R36). -/
def FlagsAre (f : Flags) (s z h pv n c : Bool) : Prop :=
  f.s = s ∧ f.z = z ∧ f.h = h ∧ f.pv = pv ∧ f.n = n ∧ f.c = c

/-- A Flags line that leaves S, Z and P/V unchanged: the other three. -/
def CarryFlagsAre (s t : State) (h n c : Bool) : Prop :=
  FlagsAre t.main.f s.main.f.s s.main.f.z h s.main.f.pv n c

/-! ### The operands of the instruction groups, as the rules name them -/

/-- The 8-bit loads from memory: the register and the address (R142, R143, R148 to R150). -/
def byteLoad (f : Family) (s : State) : Option (Reg8 × Word) :=
  match f with
  | .ldRHl dst => some (dst, s.hl)
  | .ldRIdx r x d => some (r, s.ea x d)
  | .ldABc => some (.a, s.bc)
  | .ldADe => some (.a, s.de)
  | .ldANn nn => some (.a, nn)
  | _ => none

/-- The 8-bit stores: the address and the byte (R144 to R147, R151 to R153). -/
def byteStore (f : Family) (s : State) : Option (Word × Byte) :=
  match f with
  | .ldHlR r => some (s.hl, s.reg8 r)
  | .ldIdxR x d r => some (s.ea x d, s.reg8 r)
  | .ldHlN n => some (s.hl, n)
  | .ldIdxN x d n => some (s.ea x d, n)
  | .ldBcA => some (s.bc, s.main.a)
  | .ldDeA => some (s.de, s.main.a)
  | .ldNnA nn => some (nn, s.main.a)
  | _ => none

/-- The 16-bit loads of a pair from memory: the pair and the address (R172, R173). -/
def pairLoad (f : Family) : Option (Pair × Word) :=
  match f with
  | .ldHlFrom nn => some (.hl, nn)
  | .ldDdFrom dd nn => some (dd, nn)
  | _ => none

/-- The 16-bit stores: the address and the word (R175 to R177). -/
def wordStore (f : Family) (s : State) : Option (Word × Word) :=
  match f with
  | .ldNnHl nn => some (nn, s.hl)
  | .ldNnDd nn dd => some (nn, s.pair dd)
  | .ldNnXy nn x => some (nn, s.index x)
  | _ => none

/-- What a PUSH pushes (R180, R181). -/
def pushed (f : Family) (s : State) : Option Word :=
  match f with
  | .push q => some (s.stackPair q)
  | .pushXy x => some (s.index x)
  | _ => none

/-- The eight-operation group: the operation, the source operand, and the state after reading it (R234). -/
def aluOperand (f : Family) (s : State) : Option (AluOp × Byte × State) :=
  match f with
  | .aluR op r => some (op, s.reg8 r, s)
  | .aluN op n => some (op, n, s)
  | .aluHl op => some (op, s.readValue (.mem s.hl), s.sawRead (.mem s.hl))
  | .aluIdx op x d => some (op, s.readValue (.mem (s.ea x d)), s.sawRead (.mem (s.ea x d)))
  | _ => none

/-- An operand that is read and then written: a register or a byte of memory. -/
inductive Operand where
  | reg (r : Reg8)
  | mem (a : Word)
  deriving DecidableEq, Repr

/-- The value read. -/
def Operand.value (o : Operand) (s : State) : Byte :=
  match o with
  | .reg r => s.reg8 r
  | .mem a => s.readValue (.mem a)

/-- `t` has the result where the operand was, and the bus has seen the accesses of the operand and no other. -/
def Operand.Wrote (o : Operand) (v : Byte) (s t : State) : Prop :=
  match o with
  | .reg r => t.reg8 r = v ∧ t.bus = s.bus
  | .mem a => t.bus = ((s.sawRead (.mem a)).sawWrite (.mem a) v).bus

/-- `t.bus` has seen the operand read and nothing else. -/
def Operand.OnlyRead (o : Operand) (s t : State) : Prop :=
  match o with
  | .reg _ => t.bus = s.bus
  | .mem a => t.bus = (s.sawRead (.mem a)).bus

/-- What writing the operand changes. -/
def Operand.changed (o : Operand) (flags : Bool) : Changed :=
  match o with
  | .reg r => { Changed.none with regs := [r], flags := flags }
  | .mem a => { Changed.none with bytes := [.mem a], flags := flags }

/-- INC and DEC of a byte: true for INC (R272 to R277). -/
def incDecOperand (f : Family) (s : State) : Option (Bool × Operand) :=
  match f with
  | .incR r => some (true, .reg r)
  | .incHl => some (true, .mem s.hl)
  | .incIdx x d => some (true, .mem (s.ea x d))
  | .decR r => some (false, .reg r)
  | .decHl => some (false, .mem s.hl)
  | .decIdx x d => some (false, .mem (s.ea x d))
  | _ => none

/-- The CB-table rotates and shifts (R346 to R366). -/
def shiftOperand (f : Family) (s : State) : Option (ShiftOp × Operand) :=
  match f with
  | .shiftR op r => some (op, .reg r)
  | .shiftHl op => some (op, .mem s.hl)
  | .shiftIdx op x d => some (op, .mem (s.ea x d))
  | _ => none

/-- BIT (R380 to R382). -/
def bitOperand (f : Family) (s : State) : Option (Fin 8 × Operand) :=
  match f with
  | .bitR b r => some (b, .reg r)
  | .bitHl b => some (b, .mem s.hl)
  | .bitIdx b x d => some (b, .mem (s.ea x d))
  | _ => none

/-- SET and RES: true for SET (R383 to R388). -/
def setResOperand (f : Family) (s : State) : Option (Bool × Fin 8 × Operand) :=
  match f with
  | .setR b r => some (true, b, .reg r)
  | .setHl b => some (true, b, .mem s.hl)
  | .setIdx b x d => some (true, b, .mem (s.ea x d))
  | .resR b r => some (false, b, .reg r)
  | .resHl b => some (false, b, .mem s.hl)
  | .resIdx b x d => some (false, b, .mem (s.ea x d))
  | _ => none

/-- The bit that enters a rotate or shift, from the value and the carry (R340). -/
def ShiftOp.enters (op : ShiftOp) (v : Byte) (c : Bool) : Bool :=
  match op with
  | .rlc => v.getLsbD 7
  | .rrc => v.getLsbD 0
  | .rl => c
  | .rr => c
  | .sla => false
  | .sra => v.getLsbD 7
  | .srl => false

/-- A rotate or shift to the left (R340). -/
def ShiftOp.left (op : ShiftOp) : Bool :=
  match op with
  | .rlc => true
  | .rl => true
  | .sla => true
  | .rrc => false
  | .rr => false
  | .sra => false
  | .srl => false

/-- `res` is `v` moved one place by `op`, the entering bit at the free end; `co` is the bit that left (R340). -/
def Shifted (op : ShiftOp) (v : Byte) (c : Bool) (res : Byte) (co : Bool) : Prop :=
  (op.left = true →
    (∀ k, k < 7 → res.getLsbD (k + 1) = v.getLsbD k) ∧ res.getLsbD 0 = op.enters v c ∧ co = v.getLsbD 7) ∧
  (op.left = false →
    (∀ k, k < 7 → res.getLsbD k = v.getLsbD (k + 1)) ∧ res.getLsbD 7 = op.enters v c ∧ co = v.getLsbD 0)

/-- The byte has an even number of 1 bits (R8). -/
def evenOnes (v : Byte) : Bool := ((List.range 8).filter (fun k => v.getLsbD k)).length % 2 == 0

/-- The bit of F a condition reads, and the value that makes it true (R36, R400). -/
def Cond.bit : Cond → Nat × Bool
  | .nz => (6, false)
  | .z => (6, true)
  | .nc => (0, false)
  | .c => (0, true)
  | .po => (2, false)
  | .pe => (2, true)
  | .p => (7, false)
  | .m => (7, true)

/-- The condition, read off the byte F (R400). -/
def Cond.met (cc : Cond) (f : Flags) : Bool := f.toByte.getLsbD cc.bit.1 == cc.bit.2

/-- +1 or −1. -/
def Dir.delta : Dir → Int
  | .up => 1
  | .down => -1

/-- The stored word at the address, low byte first, as the stack holds it (R82). -/
def State.storedWord (s : State) (a : Word) : Word := cat (s.bus.stored (.mem (a + 1))) (s.bus.stored (.mem a))

/-- Both bytes of the word at the address are storage, not a device. -/
def State.wordInStorage (s : State) (a : Word) : Prop :=
  s.bus.isDevice (.mem a) = false ∧ s.bus.isDevice (.mem (a + 1)) = false

/-- The eight 8-bit registers, F, SP and the index registers are all written (R54). -/
def State.allWritten (s : State) : Prop :=
  (∀ r, s.main.written.get r = true) ∧ s.main.written.f = Flags.all ∧
    s.written.ix = true ∧ s.written.iy = true ∧ s.written.sp = true

/-! ### The registers an instruction reads and writes, in the order of its rule (R54, R509) -/

/-- One point of a rule's pseudocode: the read of a register that carries a mark, or an access. -/
inductive Event where
  | reg (m : Marked)
  | access (w : Want)
  deriving DecidableEq, Repr

/-- Reads of registers. -/
def reads (l : List Marked) : List Event := l.map .reg

/-- Accesses. -/
def acts (l : List Want) : List Event := l.map .access

/-- The halves of a pair, or SP (R33). -/
def Pair.parts : Pair → List Marked
  | .sp => [.sp]
  | p => p.regs.map .reg

/-- All eight bits of F. -/
def allBits : List Marked := [.flag 7, .flag 6, .flag 5, .flag 4, .flag 3, .flag 2, .flag 1, .flag 0]

/-- The halves of a pair, or A and the eight bits of F (R33, R54). -/
def StackPair.parts : StackPair → List Marked
  | .bc => Pair.parts .bc
  | .de => Pair.parts .de
  | .hl => Pair.parts .hl
  | .af => .reg .a :: allBits

/-- The register of the field pp (R107). -/
def IndexPair.parts (x : Index) : IndexPair → List Marked
  | .bc => Pair.parts .bc
  | .de => Pair.parts .de
  | .self => [.index x]
  | .sp => [.sp]

/-- The flag a condition reads (R400). -/
def Cond.part (cc : Cond) : List Marked := [.flag (Fin.ofNat 8 cc.bit.1)]

/-- The carry, where the operation takes it in (R230, R231). -/
def AluOp.carryIn (op : AluOp) : List Marked := if op = .adc ∨ op = .sbc then [.flag 0] else []

/-- The carry, where the operation takes it in (R340). -/
def ShiftOp.carryIn (op : ShiftOp) : List Marked := if op = .rl ∨ op = .rr then [.flag 0] else []

/-- H and L. -/
def hlParts : List Marked := [.reg .h, .reg .l]

/-- The reads of registers and the accesses of each instruction, in the order of its rule's pseudocode (R54, R504, R506,
R509); the order of the halves of a pair and of the bits of F is log entry 13. -/
def order (f : Family) (s : State) : List Event :=
  match f with
  | .ldRR _ src => reads [.reg src]
  | .ldRHl _ => reads hlParts ++ acts (accesses f s)
  | .ldRIdx _ x _ => reads [.index x] ++ acts (accesses f s)
  | .ldHlR r => reads (hlParts ++ [.reg r]) ++ acts (accesses f s)
  | .ldIdxR x _ r => reads [.index x, .reg r] ++ acts (accesses f s)
  | .ldHlN _ => reads hlParts ++ acts (accesses f s)
  | .ldIdxN x _ _ => reads [.index x] ++ acts (accesses f s)
  | .ldABc => reads [.reg .b, .reg .c] ++ acts (accesses f s)
  | .ldADe => reads [.reg .d, .reg .e] ++ acts (accesses f s)
  | .ldBcA => reads [.reg .b, .reg .c, .reg .a] ++ acts (accesses f s)
  | .ldDeA => reads [.reg .d, .reg .e, .reg .a] ++ acts (accesses f s)
  | .ldNnA _ => reads [.reg .a] ++ acts (accesses f s)
  | .ldIA => reads [.reg .a]
  | .ldRA => reads [.reg .a]
  | .ldNnHl _ => reads hlParts ++ acts (accesses f s)
  | .ldNnDd _ dd => reads dd.parts ++ acts (accesses f s)
  | .ldNnXy _ x => reads [.index x] ++ acts (accesses f s)
  | .ldSpHl => reads hlParts
  | .ldSpXy x => reads [.index x]
  | .push q => reads (q.parts ++ [.sp]) ++ acts (accesses f s)
  | .pushXy x => reads [.index x, .sp] ++ acts (accesses f s)
  | .pop _ => reads [.sp] ++ acts (accesses f s)
  | .popXy _ => reads [.sp] ++ acts (accesses f s)
  | .exSpHl => reads [.sp] ++ acts (wantRead16 s.sp) ++ reads hlParts ++ acts (wantWrite16 s.sp s.hl)
  | .exSpXy x => reads [.sp] ++ acts (wantRead16 s.sp) ++ reads [.index x] ++ acts (wantWrite16 s.sp (s.index x))
  | .ldBlock _ _ =>
    reads hlParts ++ acts (wantRead s.hl) ++ reads [.reg .d, .reg .e] ++
      acts (wantWrite s.de (s.readValue (.mem s.hl))) ++ reads [.reg .b, .reg .c]
  | .cpBlock _ _ => reads hlParts ++ acts (accesses f s) ++ reads [.reg .a, .reg .b, .reg .c]
  | .aluR op r => reads ([.reg r, .reg .a] ++ op.carryIn)
  | .aluN op _ => reads (.reg .a :: op.carryIn)
  | .aluHl op => reads hlParts ++ acts (accesses f s) ++ reads (.reg .a :: op.carryIn)
  | .aluIdx op x _ => reads [.index x] ++ acts (accesses f s) ++ reads (.reg .a :: op.carryIn)
  | .incR r => reads [.reg r]
  | .incHl => reads hlParts ++ acts (accesses f s)
  | .incIdx x _ => reads [.index x] ++ acts (accesses f s)
  | .decR r => reads [.reg r]
  | .decHl => reads hlParts ++ acts (accesses f s)
  | .decIdx x _ => reads [.index x] ++ acts (accesses f s)
  | .daa => reads [.reg .a, .flag 0, .flag 4, .flag 1]
  | .cpl => reads [.reg .a]
  | .neg => reads [.reg .a]
  | .ccf => reads [.flag 0]
  | .addHl p => reads (hlParts ++ p.parts)
  | .adcHl p => reads (hlParts ++ p.parts ++ [.flag 0])
  | .sbcHl p => reads (hlParts ++ p.parts ++ [.flag 0])
  | .addXy x p => reads (.index x :: p.parts x)
  | .incSs p => reads p.parts
  | .incXy x => reads [.index x]
  | .decSs p => reads p.parts
  | .decXy x => reads [.index x]
  | .rotA op => reads (.reg .a :: op.carryIn)
  | .shiftR op r => reads (.reg r :: op.carryIn)
  | .shiftHl op =>
    reads hlParts ++ acts (wantRead s.hl) ++ reads op.carryIn ++
      acts (wantWrite s.hl (op.shift (s.readValue (.mem s.hl)) s.main.f.c).1)
  | .shiftIdx op x d =>
    reads [.index x] ++ acts (wantRead (s.ea x d)) ++ reads op.carryIn ++
      acts (wantWrite (s.ea x d) (op.shift (s.readValue (.mem (s.ea x d))) s.main.f.c).1)
  | .rld =>
    reads hlParts ++ acts (wantRead s.hl) ++ reads [.reg .a] ++
      acts (wantWrite s.hl (rldDigits s.main.a (s.readValue (.mem s.hl))).2)
  | .rrd =>
    reads hlParts ++ acts (wantRead s.hl) ++ reads [.reg .a] ++
      acts (wantWrite s.hl (rrdDigits s.main.a (s.readValue (.mem s.hl))).2)
  | .bitR _ r => reads [.reg r]
  | .bitHl _ => reads hlParts ++ acts (accesses f s)
  | .bitIdx _ x _ => reads [.index x] ++ acts (accesses f s)
  | .setR _ r => reads [.reg r]
  | .setHl _ => reads hlParts ++ acts (accesses f s)
  | .setIdx _ x _ => reads [.index x] ++ acts (accesses f s)
  | .resR _ r => reads [.reg r]
  | .resHl _ => reads hlParts ++ acts (accesses f s)
  | .resIdx _ x _ => reads [.index x] ++ acts (accesses f s)
  | .jpCc cc _ => reads cc.part
  | .jrCc cc _ => reads cc.part
  | .jpHl => reads hlParts
  | .jpXy x => reads [.index x]
  | .djnz _ => reads [.reg .b]
  | .call _ => reads [.sp] ++ acts (accesses f s)
  | .callCc cc _ => reads cc.part ++ if s.cond cc then reads [.sp] ++ acts (accesses f s) else []
  | .ret => reads [.sp] ++ acts (accesses f s)
  | .retCc cc => reads cc.part ++ if s.cond cc then reads [.sp] ++ acts (accesses f s) else []
  | .reti => reads [.sp] ++ acts (accesses f s)
  | .retn => reads [.sp] ++ acts (accesses f s)
  | .rst _ => reads [.sp] ++ acts (accesses f s)
  | .inRC _ => reads [.reg .c] ++ acts (accesses f s)
  | .inBlock _ _ =>
    reads [.reg .c] ++ acts [.read (.io s.main.c)] ++ reads hlParts ++
      acts (wantWrite s.hl (s.readValue (.io s.main.c))) ++ reads [.reg .b]
  | .outNA _ => reads [.reg .a] ++ acts (accesses f s)
  | .outCR r => reads [.reg .c, .reg r] ++ acts (accesses f s)
  | .outBlock _ _ =>
    reads hlParts ++ acts (wantRead s.hl) ++ reads [.reg .b, .reg .c] ++
      acts [.write (.io s.main.c) (s.readValue (.mem s.hl))]
  | .ldRN _ _ => acts (accesses f s)
  | .ldANn _ => acts (accesses f s)
  | .ldAI => acts (accesses f s)
  | .ldAR => acts (accesses f s)
  | .ldDdNn _ _ => acts (accesses f s)
  | .ldXyNn _ _ => acts (accesses f s)
  | .ldHlFrom _ => acts (accesses f s)
  | .ldDdFrom _ _ => acts (accesses f s)
  | .ldXyFrom _ _ => acts (accesses f s)
  | .exDeHl => acts (accesses f s)
  | .exAf => acts (accesses f s)
  | .exx => acts (accesses f s)
  | .scf => acts (accesses f s)
  | .nop => acts (accesses f s)
  | .halt => acts (accesses f s)
  | .di => acts (accesses f s)
  | .ei => acts (accesses f s)
  | .im _ => acts (accesses f s)
  | .jp _ => acts (accesses f s)
  | .jr _ => acts (accesses f s)
  | .inAN _ => acts (accesses f s)

/-- The first read of a register whose mark is 0, and the accesses before it; none if there is no such read, or if an
access fails before it (R506, R509). -/
def firstUnwritten (s : State) : List Event → Option (Marked × List Want)
  | [] => none
  | .reg m :: rest => if s.marked m then firstUnwritten s rest else some (m, [])
  | .access w :: rest =>
    match s.bus.error w with
    | some _ => none
    | none => (firstUnwritten s rest).map (fun x => (x.1, w :: x.2))

/-- The bits of F but C. -/
def bitsButCarry : List Marked := [.flag 7, .flag 6, .flag 5, .flag 4, .flag 3, .flag 2, .flag 1]

/-- The bits a Flags line writes that leaves S, Z and P/V unchanged: H, N, C, and bits 5 and 3. -/
def carryBits : List Marked := [.flag 5, .flag 4, .flag 3, .flag 1, .flag 0]

/-- The registers and bits of F each instruction writes (R54: a flag its Flags line leaves unchanged is not among them, bits
5 and 3 are where any flag is). The three register exchanges move marks and are not listed. -/
def writesOf (f : Family) (s : State) : List Marked :=
  match f with
  | .ldRR dst _ => [.reg dst]
  | .ldRN dst _ => [.reg dst]
  | .ldRHl dst => [.reg dst]
  | .ldRIdx dst _ _ => [.reg dst]
  | .ldABc => [.reg .a]
  | .ldADe => [.reg .a]
  | .ldANn _ => [.reg .a]
  | .ldAI => .reg .a :: bitsButCarry
  | .ldAR => .reg .a :: bitsButCarry
  | .ldDdNn dd _ => dd.parts
  | .ldXyNn x _ => [.index x]
  | .ldHlFrom _ => hlParts
  | .ldDdFrom dd _ => dd.parts
  | .ldXyFrom x _ => [.index x]
  | .ldSpHl => [.sp]
  | .ldSpXy _ => [.sp]
  | .push _ => [.sp]
  | .pushXy _ => [.sp]
  | .pop q => .sp :: q.parts
  | .popXy x => [.sp, .index x]
  | .exSpHl => hlParts
  | .exSpXy x => [.index x]
  | .ldBlock _ _ =>
    [.reg .b, .reg .c, .reg .d, .reg .e, .reg .h, .reg .l, .flag 5, .flag 4, .flag 3, .flag 2, .flag 1]
  | .cpBlock _ _ => [.reg .b, .reg .c, .reg .h, .reg .l] ++ bitsButCarry
  | .aluR op _ => (if op = .cp then [] else [.reg .a]) ++ allBits
  | .aluN op _ => (if op = .cp then [] else [.reg .a]) ++ allBits
  | .aluHl op => (if op = .cp then [] else [.reg .a]) ++ allBits
  | .aluIdx op _ _ => (if op = .cp then [] else [.reg .a]) ++ allBits
  | .incR r => .reg r :: bitsButCarry
  | .incHl => bitsButCarry
  | .incIdx _ _ => bitsButCarry
  | .decR r => .reg r :: bitsButCarry
  | .decHl => bitsButCarry
  | .decIdx _ _ => bitsButCarry
  | .daa => [.reg .a, .flag 7, .flag 6, .flag 5, .flag 4, .flag 3, .flag 2, .flag 0]
  | .cpl => [.reg .a, .flag 5, .flag 4, .flag 3, .flag 1]
  | .neg => .reg .a :: allBits
  | .ccf => carryBits
  | .scf => carryBits
  | .addHl _ => hlParts ++ carryBits
  | .adcHl _ => hlParts ++ allBits
  | .sbcHl _ => hlParts ++ allBits
  | .addXy x _ => .index x :: carryBits
  | .incSs p => p.parts
  | .incXy x => [.index x]
  | .decSs p => p.parts
  | .decXy x => [.index x]
  | .rotA _ => .reg .a :: carryBits
  | .shiftR _ r => .reg r :: allBits
  | .shiftHl _ => allBits
  | .shiftIdx _ _ _ => allBits
  | .rld => .reg .a :: bitsButCarry
  | .rrd => .reg .a :: bitsButCarry
  | .bitR _ _ => bitsButCarry
  | .bitHl _ => bitsButCarry
  | .bitIdx _ _ _ => bitsButCarry
  | .setR _ r => [.reg r]
  | .resR _ r => [.reg r]
  | .djnz _ => [.reg .b]
  | .call _ => [.sp]
  | .callCc cc _ => if s.cond cc then [.sp] else []
  | .ret => [.sp]
  | .retCc cc => if s.cond cc then [.sp] else []
  | .reti => [.sp]
  | .retn => [.sp]
  | .rst _ => [.sp]
  | .inAN _ => [.reg .a]
  | .inRC r => .reg r :: bitsButCarry
  | .inBlock _ _ => [.reg .b, .reg .h, .reg .l] ++ allBits
  | .outBlock _ _ => [.reg .b, .reg .h, .reg .l] ++ allBits
  | .ldHlR _ => []
  | .ldIdxR _ _ _ => []
  | .ldHlN _ => []
  | .ldIdxN _ _ _ => []
  | .ldBcA => []
  | .ldDeA => []
  | .ldNnA _ => []
  | .ldIA => []
  | .ldRA => []
  | .ldNnHl _ => []
  | .ldNnDd _ _ => []
  | .ldNnXy _ _ => []
  | .exDeHl => []
  | .exAf => []
  | .exx => []
  | .nop => []
  | .halt => []
  | .di => []
  | .ei => []
  | .im _ => []
  | .setHl _ => []
  | .setIdx _ _ _ => []
  | .resHl _ => []
  | .resIdx _ _ _ => []
  | .jp _ => []
  | .jpCc _ _ => []
  | .jr _ => []
  | .jrCc _ _ => []
  | .jpHl => []
  | .jpXy _ => []
  | .outNA _ => []
  | .outCR _ => []

/-- What a debugger name covers of a bank: its 8-bit registers, and whether F (R531). -/
def DebugReg.covers (g : DebugReg) (shadow : Bool) : List Reg8 × Bool :=
  match g with
  | .reg p q => if p = shadow then ([q], false) else ([], false)
  | .f p => ([], p == shadow)
  | .pair p .bc => if p = shadow then ([.b, .c], false) else ([], false)
  | .pair p .de => if p = shadow then ([.d, .e], false) else ([], false)
  | .pair p .hl => if p = shadow then ([.h, .l], false) else ([], false)
  | .pair p .af => if p = shadow then ([.a], true) else ([], false)
  | _ => ([], false)

/-! ### Steps -/

/-- The bytes stand in readable storage from `a` on, modulo 2^16. -/
def State.holdsAt (s : State) : Word → List Byte → Bool
  | _, [] => true
  | a, b :: rest =>
    s.bus.readError (.mem a) == none && !s.bus.isDevice (.mem a) && s.bus.stored (.mem a) == b &&
      s.holdsAt (a + 1) rest

/-- The next step is an engine call that executes an instruction. -/
def Running (s : State) : Prop :=
  s.fault = none ∧ s.halted = false ∧ nmiDue s = false ∧ intDue s = false

/-! ### Invariants -/

/-- The storage of both spaces is in the canonical form (R70). -/
def State.canonical (s : State) : Bool := s.bus.mem.wf && s.bus.io.portWf

/-- The marks of a bank that only grow: every mark of `k` is one of `m` (R54). -/
def Flags.le (k m : Flags) : Prop :=
  (k.s → m.s) ∧ (k.z → m.z) ∧ (k.b5 → m.b5) ∧ (k.h → m.h) ∧ (k.b3 → m.b3) ∧ (k.pv → m.pv) ∧ (k.n → m.n) ∧ (k.c → m.c)

/-- Every mark of the main bank, of IX, IY and SP is kept (R54). -/
def MarksKept (s t : State) : Prop :=
  (∀ r, s.main.written.get r → t.main.written.get r) ∧ s.main.written.f.le t.main.written.f ∧
    (s.written.ix → t.written.ix) ∧ (s.written.iy → t.written.iy) ∧ (s.written.sp → t.written.sp)

end Sys2Proof.Machine
end

