-- ==== Sys2Proof/Certificates/Slice0/Obligations.lean ====
section
/-! DEFINITION. The statements for the provers. Each says what the rules of spec/ say, over every instruction of a
group, every operand and every state; `Completes i s` is a condition on the state and the operands alone (the regions
serve the instruction's accesses). -/

open Sys2Proof Sys2Proof.Machine

/-! ### Encoding and decoding -/

/-- One word of each format of R100, and a few more, written out from the spec's encodings. -/
def Obligations.FewWordsDecode : Prop :=
  decode [0x78#8] = .done .ldAB 1 ∧ decode [0x3E#8, 0x05#8] = .done (.ldAN 0x05#8) 2 ∧
  decode [0x18#8, 0xFE#8] = .done (.jrE (-2)) 2 ∧ decode [0xC3#8, 0x00#8, 0x80#8] = .done (.jpNn 0x8000#16) 3 ∧
  decode [0xCB#8, 0x07#8] = .done .rlcA 2 ∧ decode [0xED#8, 0x44#8] = .done .neg 2 ∧
  decode [0xED#8, 0x4B#8, 0x00#8, 0x90#8] = .done (.ldBcMemNn 0x9000#16) 4 ∧
  decode [0xDD#8, 0xE9#8] = .done .jpIx 2 ∧ decode [0xDD#8, 0x7E#8, 0x05#8] = .done (.ldAMemIx 5) 3 ∧
  decode [0xDD#8, 0x36#8, 0xFF#8, 0x00#8] = .done (.ldMemIxN (-1) 0#8) 4 ∧
  decode [0xFD#8, 0x21#8, 0x34#8, 0x12#8] = .done (.ldIyNn 0x1234#16) 4 ∧
  decode [0xDD#8, 0xCB#8, 0x02#8, 0x46#8] = .done (.bit0MemIx 2) 4

/-- The decoder reads back every well-formed instruction from its encoding, whatever bytes follow (R101, R120). -/
def Obligations.EncodeThenDecode : Prop :=
  ∀ (i : Instr) (rest : List Byte), i.wf = true → decode (encode i ++ rest) = .done i (encode i).length

/-- Bytes that decode are the encoding of the instruction they decode to, which is well formed (R120: no two rows match
the same bytes). -/
def Obligations.DecodeThenEncode : Prop :=
  ∀ (bytes : List Byte) (i : Instr) (n : Nat), decode bytes = .done i n →
    encode i = bytes.take n ∧ i.wf = true ∧ n ≤ bytes.length

/-- Every row's encoding is its rule's Encoding line: the register, pair, condition, bit and operation codes in their
fields (R100, R104 to R108, R110 to R118). -/
def Obligations.EncodingLines : Prop := ∀ i : Instr, encode i = i.family.encoding

/-- The first two bytes determine the length of an instruction (R119). -/
def Obligations.LengthFromTwoBytes : Prop :=
  ∀ (b0 b1 : Byte) (rest : List Byte) (i : Instr) (n : Nat), decode (b0 :: b1 :: rest) = .done i n →
    n = instructionLength b0 b1 ∧ 1 ≤ n ∧ n ≤ 4

/-- Exactly the encodings of R120 are rejected, each as soon as its identifying bytes are there (R121). -/
def Obligations.RejectedEncodings : Prop :=
  (∀ (b0 : Byte) (rest bs : List Byte), b0 ≠ 0xCB#8 → b0 ≠ 0xDD#8 → b0 ≠ 0xED#8 → b0 ≠ 0xFD#8 →
    decode (b0 :: rest) ≠ .invalidOpcode bs) ∧
  (∀ (b1 : Byte) (rest bs : List Byte), decode (0xCB#8 :: b1 :: rest) = .invalidOpcode bs ↔
    (0x30 ≤ b1.toNat ∧ b1.toNat ≤ 0x37) ∧ bs = [0xCB#8, b1]) ∧
  (∀ (b1 : Byte) (rest bs : List Byte), decode (0xED#8 :: b1 :: rest) = .invalidOpcode bs ↔
    b1 ∉ [0x40#8, 0x41#8, 0x42#8, 0x43#8, 0x44#8, 0x45#8, 0x46#8, 0x47#8, 0x48#8, 0x49#8, 0x4A#8, 0x4B#8, 0x4D#8,
      0x4F#8, 0x50#8, 0x51#8, 0x52#8, 0x53#8, 0x56#8, 0x57#8, 0x58#8, 0x59#8, 0x5A#8, 0x5B#8, 0x5E#8, 0x5F#8, 0x60#8,
      0x61#8, 0x62#8, 0x63#8, 0x67#8, 0x68#8, 0x69#8, 0x6A#8, 0x6B#8, 0x6F#8, 0x72#8, 0x73#8, 0x78#8, 0x79#8, 0x7A#8,
      0x7B#8, 0xA0#8, 0xA1#8, 0xA2#8, 0xA3#8, 0xA8#8, 0xA9#8, 0xAA#8, 0xAB#8, 0xB0#8, 0xB1#8, 0xB2#8, 0xB3#8, 0xB8#8,
      0xB9#8, 0xBA#8, 0xBB#8] ∧ bs = [0xED#8, b1]) ∧
  (∀ (x : Index) (b1 : Byte) (rest bs : List Byte), b1 ≠ 0xCB#8 →
    (decode (x.byte :: b1 :: rest) = .invalidOpcode bs ↔
    b1 ∉ [0x09#8, 0x19#8, 0x29#8, 0x39#8, 0x21#8, 0x22#8, 0x23#8, 0x2A#8, 0x2B#8, 0x34#8, 0x35#8, 0x36#8, 0x46#8,
      0x4E#8, 0x56#8, 0x5E#8, 0x66#8, 0x6E#8, 0x7E#8, 0x70#8, 0x71#8, 0x72#8, 0x73#8, 0x74#8, 0x75#8, 0x77#8, 0x86#8,
      0x8E#8, 0x96#8, 0x9E#8, 0xA6#8, 0xAE#8, 0xB6#8, 0xBE#8, 0xE1#8, 0xE3#8, 0xE5#8, 0xE9#8, 0xF9#8] ∧
      bs = [x.byte, b1])) ∧
  (∀ (x : Index) (d b3 : Byte) (rest bs : List Byte),
    decode (x.byte :: 0xCB#8 :: d :: b3 :: rest) = .invalidOpcode bs ↔
      (b3.toNat % 8 ≠ 6 ∨ b3 = 0x36#8) ∧ bs = [x.byte, 0xCB#8, d, b3]) ∧
  (∀ (x : Index) (d : Byte), decode [x.byte, 0xCB#8] = .more ∧ decode [x.byte, 0xCB#8, d] = .more)

/-! ### Steps -/

/-- When the bytes at PC stand in storage and decode to an instruction, the step is that instruction's meaning, in the
state in which R has counted the M1 fetches (R47), the EI shadow is over (R50) and the boundary is no longer one at which
an interrupt was accepted (R519, log entry 22); nothing else is different. -/
def Obligations.StepRunsTheDecodedInstruction : Prop :=
  ∀ (s : State) (i : Instr) (bytes : List Byte), Running s → i.wf = true → decode bytes = .done i bytes.length →
    s.holdsAt s.pc bytes = true →
    step s = exec i { s with r := Nat.iterate refresh (m1Fetches bytes) s.r, eiShadow := false, boundaryUsed := false }

/-- A step stops at the fetch: with InvalidOpcode as soon as the bytes in storage at PC are not admitted (R501), and with
BusError at the first byte that no region serves, before any later byte and any data access (R81, R503). -/
def Obligations.FetchStops : Prop :=
  ∀ (s : State) (bytes : List Byte), Running s → s.holdsAt s.pc bytes = true →
    (decode bytes = .invalidOpcode bytes → step s = .fault (.invalidOpcode bytes s.pc s.bus)) ∧
    (∀ k, decode bytes = .more → s.bus.readError (.mem (s.pc + BitVec.ofNat 16 bytes.length)) = some k →
      step s = .fault (.busError k (.mem (s.pc + BitVec.ofNat 16 bytes.length)) s.pc s.bus))

/-- A faulted state has no further step of any kind (R51, R505). -/
def Obligations.FaultedStateHasNoStep : Prop :=
  ∀ (s : State) (m : FaultMark), s.fault = some m →
    step s = .fault (.afterFailure m) ∧ engineCall s = .fault (.afterFailure m) ∧
      acceptInterrupt s = .fault (.afterFailure m)

/-- An engine call while halted increments R and changes nothing else of the CPU (R49); the boundary after it is a new one
(R519, log entry 22). With IFF1 = 0 and no NMI the halt is permanent: it is an end of the run, and the step leaves it one
(R539, R575). -/
def Obligations.HaltedEngineCall : Prop :=
  ∀ s t : State, s.fault = none → s.halted = true → t = { s with r := refresh s.r, boundaryUsed := false } →
    engineCall s = .next t ∧
    (s.iff1 = false → s.lines.nmiSource = false → ended none s = true ∧ step s = .next t ∧ ended none t = true)

/-- A step never refuses, and it faults only as InvalidOpcode, as a BusError of the three kinds the engine can raise, or
because the state is already faulted (R77, R500, R507; that UnwrittenRegister is not among them is the model's choice,
log entry 1). -/
def Obligations.StepOutcomes : Prop :=
  ∀ s : State, (∃ t, step s = .next t) ∨ (∃ bytes bus, step s = .fault (.invalidOpcode bytes s.pc bus)) ∨
    (∃ k p bus, k ≠ .unsupportedWidth ∧ step s = .fault (.busError k p s.pc bus)) ∨
    (∃ m, s.fault = some m ∧ step s = .fault (.afterFailure m))

/-- Every admitted instruction runs: it completes when its accesses can be served, the bus then having seen exactly those, once
each and in order (R80, R86); otherwise the first one that cannot ends it with a BusError, the accesses before it
performed and no later one (R502, R504). -/
def Obligations.CompletesOrBusError : Prop :=
  ∀ (i : Instr) (s : State), match firstError s.bus (accesses i.family s) with
    | none => ∃ t, exec i s = .next t ∧ t.bus = (s.sees (accesses i.family s)).bus
    | some (k, p) =>
      exec i s = .fault (.busError k p s.pc (s.sees (served s.bus (accesses i.family s))).bus)

/-! ### Interrupts -/

/-- Acceptance of a non-maskable interrupt (R513), at any boundary at which none has been accepted, whatever IFF1, IFF2 and
the EI shadow are; a push that fails ends it with a BusError, the bytes before performed (R504, R511). That `step` makes
the acceptance as soon as it is due is the model's choice (log entry 8), since R511 and R575 leave the moment to the
host, and so is the mark `boundaryUsed` (log entry 22). -/
def Obligations.NmiAcceptance : Prop :=
  ∀ s : State, s.fault = none → s.boundaryUsed = false → s.lines.nmiPending = true → s.lines.nmiSource = true →
    step s = acceptInterrupt s ∧
    (∀ k, s.bus.writeError (.mem (s.sp - 2)) = some k →
      acceptInterrupt s = .fault (.busError k (.mem (s.sp - 2)) s.pc s.bus)) ∧
    (∀ k, s.bus.writeError (.mem (s.sp - 2)) = none → s.bus.writeError (.mem (s.sp - 2 + 1)) = some k →
      acceptInterrupt s = .fault (.busError k (.mem (s.sp - 2 + 1)) s.pc
        (s.sawWrite (.mem (s.sp - 2)) (trunc8 s.pc.toNat)).bus)) ∧
    (s.bus.writeError (.mem (s.sp - 2)) = none → s.bus.writeError (.mem (s.sp - 2 + 1)) = none →
      ∃ t, acceptInterrupt s = .next t ∧ t.pc = 0x0066#16 ∧ t.sp = trunc16 ((s.sp.toNat : Int) - 2) ∧
        t.bus = (s.sawWriteWord (s.sp - 2) s.pc).bus ∧ t.lines = { s.lines with nmiPending := false } ∧
        t.r = refresh s.r ∧ t.halted = false ∧ t.eiShadow = false ∧ t.iff1 = false ∧ t.iff2 = s.iff2 ∧
        t.main = s.main ∧ t.shadow = s.shadow ∧ t.ix = s.ix ∧ t.iy = s.iy ∧ t.i = s.i ∧ t.im = s.im ∧
        t.fault = none ∧ t.written = { s.written with sp := true } ∧ t.boundaryUsed = true)

/-- Acceptance of a maskable interrupt (R512) in mode 0 with an RST byte (R514), in mode 1 (R515) and in mode 2 (R516):
PC is pushed, both flip-flops are cleared, and PC goes where the mode says; the first access that fails, of the push and
in mode 2 then of the vector read, ends it with a BusError, the accesses before it performed (R504, R516). That `step`
makes the acceptance as soon as it is due is the model's choice (log entry 8), since R511 and R575 leave the moment to
the host, and so is the mark `boundaryUsed` (log entry 22). -/
def Obligations.IntAcceptance : Prop :=
  ∀ (s u : State) (v : Word), s.fault = none → s.boundaryUsed = false → s.lines.intLine = true →
    s.lines.intSource = true → s.iff1 = true → s.eiShadow = false →
    (s.lines.nmiPending && s.lines.nmiSource) = false →
    (s.im = .im0 → s.lines.intData.toNat / 64 = 3 ∧ s.lines.intData.toNat % 8 = 7) →
    u = s.sawWriteWord (s.sp - 2) s.pc → v = cat s.i s.lines.intData →
    step s = acceptInterrupt s ∧
    (∀ k, s.bus.writeError (.mem (s.sp - 2)) = some k →
      acceptInterrupt s = .fault (.busError k (.mem (s.sp - 2)) s.pc s.bus)) ∧
    (∀ k, s.bus.writeError (.mem (s.sp - 2)) = none → s.bus.writeError (.mem (s.sp - 2 + 1)) = some k →
      acceptInterrupt s = .fault (.busError k (.mem (s.sp - 2 + 1)) s.pc
        (s.sawWrite (.mem (s.sp - 2)) (trunc8 s.pc.toNat)).bus)) ∧
    (s.bus.writeError (.mem (s.sp - 2)) = none → s.bus.writeError (.mem (s.sp - 2 + 1)) = none →
      (∀ k, s.im = .im2 → s.bus.readError (.mem v) = some k →
        acceptInterrupt s = .fault (.busError k (.mem v) s.pc u.bus)) ∧
      (∀ k, s.im = .im2 → s.bus.readError (.mem v) = none → s.bus.readError (.mem (v + 1)) = some k →
        acceptInterrupt s = .fault (.busError k (.mem (v + 1)) s.pc (u.sawRead (.mem v)).bus)) ∧
      ((s.im = .im2 → s.bus.readError (.mem v) = none ∧ s.bus.readError (.mem (v + 1)) = none) →
        ∃ t, acceptInterrupt s = .next t ∧
          (s.im = .im0 → t.pc = trunc16 (8 * (s.lines.intData.toNat / 8 % 8 : Nat)) ∧ t.bus = u.bus) ∧
          (s.im = .im1 → t.pc = 0x0038#16 ∧ t.bus = u.bus) ∧
          (s.im = .im2 → t.pc = u.readWord v ∧ t.bus = (u.sawReadWord v).bus) ∧
          t.sp = trunc16 ((s.sp.toNat : Int) - 2) ∧ t.iff1 = false ∧ t.iff2 = false ∧ t.lines = s.lines ∧
          t.r = refresh s.r ∧ t.halted = false ∧ t.eiShadow = false ∧ t.main = s.main ∧ t.shadow = s.shadow ∧
          t.ix = s.ix ∧ t.iy = s.iy ∧ t.i = s.i ∧ t.im = s.im ∧ t.fault = none ∧
          t.written = { s.written with sp := true } ∧ t.boundaryUsed = true))

/-- At a boundary at which an interrupt has been accepted none is accepted (R519). With no NMI due, a maskable interrupt is
refused when INT is not asserted or not a source, when IFF1 = 0 and in the EI shadow: acceptance does nothing (R511,
R512). One that is accepted in mode 0 fails on a data byte that is no RST opcode, before any access (R514). That `step`
is an engine call exactly where nothing is due, and the acceptance elsewhere, is the model's choice (log entry 8), since
R511 and R575 leave the moment to the host. -/
def Obligations.InterruptRefused : Prop :=
  ∀ s : State, s.fault = none →
    (s.boundaryUsed = true → acceptInterrupt s = .next s ∧ step s = engineCall s) ∧
    ((s.lines.nmiPending && s.lines.nmiSource) = false →
      (s.lines.intLine = false ∨ s.lines.intSource = false ∨ s.iff1 = false ∨ s.eiShadow = true) →
      acceptInterrupt s = .next s ∧ step s = engineCall s) ∧
    (s.boundaryUsed = false → (s.lines.nmiPending && s.lines.nmiSource) = false → s.lines.intLine = true →
      s.lines.intSource = true → s.iff1 = true → s.eiShadow = false → s.im = .im0 →
      ¬ (s.lines.intData.toNat / 64 = 3 ∧ s.lines.intData.toNat % 8 = 7) →
      acceptInterrupt s = .fault (.invalidOpcode [s.lines.intData] s.pc s.bus) ∧ step s = acceptInterrupt s)

/-- At most one interrupt is accepted at a boundary (R519): after an acceptance, and whatever the host then does to its inputs
and to the registers, acceptance does nothing and the next step is an engine call, which runs the handler's first
instruction since the halted state is over; the boundary after an engine call is a new one; an NMI that is due shuts an
INT out. That `step` makes the acceptance as soon as it is due is the model's choice (log entry 8), since R511 and R575
leave the moment to the host, and so is the mark `boundaryUsed` (log entry 22). -/
def Obligations.OneAcceptancePerBoundary : Prop :=
  (∀ s t : State, s.fault = none → (nmiDue s = true ∨ intDue s = true) → acceptInterrupt s = .next t →
    step s = .next t ∧ (nmiDue s = true → intDue s = false) ∧
    ∀ (moves : List HostMove) (u : State), u = moves.foldl (fun x m => m.apply x) t →
      acceptInterrupt u = .next u ∧ step u = engineCall u ∧ u.halted = false) ∧
  (∀ u v : State, engineCall u = .next v → v.boundaryUsed = false)

/-! ### Invariants and whole-machine rules -/

/-- Every step keeps the storage of both spaces in the canonical form: addresses inside the space, rising, each byte
listed once (R70, R88). -/
def Obligations.StepKeepsCanonicalStorage : Prop :=
  ∀ s t : State, s.canonical = true → step s = .next t → t.canonical = true

/-- Every step keeps: not faulted, and never halted inside an EI shadow (R49, R50, R51). -/
def Obligations.StepKeepsHaltOutsideShadow : Prop :=
  ∀ s t : State, s.fault = none → (s.halted = true → s.eiShadow = false) → step s = .next t →
    t.fault = none ∧ (t.halted = true → t.eiShadow = false)

/-- The values the spec gives for reset and the marks of the registers it leaves unspecified (R53, R54, R550), the inputs
at launch (R552), and the two invariants above. -/
def Obligations.ResetState : Prop :=
  State.reset.pc = 0#16 ∧ State.reset.i = 0#8 ∧ State.reset.r = 0#8 ∧ State.reset.iff1 = false ∧
  State.reset.iff2 = false ∧ State.reset.im = .im0 ∧ State.reset.halted = false ∧ State.reset.eiShadow = false ∧
  State.reset.fault = none ∧ State.reset.main.written = BankMarks.none ∧ State.reset.shadow.written = BankMarks.none ∧
  State.reset.written = { ix := false, iy := false, sp := false } ∧
  State.reset.lines.nmiPending = false ∧ State.reset.lines.intLine = false ∧
  State.reset.canonical = true ∧ (State.reset.halted = true → State.reset.eiShadow = false)

/-- What one M1 fetch does to R, how many of them an instruction makes, that an engine call does nothing else to R but
by LD R,A (R47), and that R[7] changes only by LD R,A, in every step from every state (R48). -/
def Obligations.Refresh : Prop :=
  (∀ r : Byte, (refresh r).toNat = 128 * (r.toNat / 128) + (r.toNat % 128 + 1) % 128) ∧
  (∀ i : Instr, m1Fetches (encode i) =
    (if (encode i).head? = some 0xCB#8 ∨ (encode i).head? = some 0xED#8 ∨ (encode i).head? = some 0xDD#8 ∨
      (encode i).head? = some 0xFD#8 then 2 else 1)) ∧
  (∀ (s s1 t : State) (i : Instr) (bytes : List Byte), Running s → fetch s = .next ((i, bytes), s1) →
    step s = .next t → i ≠ .ldRA → t.r = Nat.iterate refresh (m1Fetches bytes) s.r) ∧
  (∀ s t : State, step s = .next t → t.r.getLsbD 7 = s.r.getLsbD 7 ∨
    (Running s ∧ ∃ bytes s1, fetch s = .next ((.ldRA, bytes), s1)))

/-- Which instructions write I (R44), IFF1 and IFF2 (R45), IM (R46), R, `halted` and `eiShadow`; none writes the fault
mark, the host's inputs, the use of the boundary or the regions (R70, R510, R519). -/
def Obligations.ControlRegisterWriters : Prop :=
  ∀ (i : Instr) (s t : State), exec i s = .next t →
    (i ≠ .ldIA → t.i = s.i) ∧ (i ≠ .ldRA → t.r = s.r) ∧ (i ≠ .im0 → i ≠ .im1 → i ≠ .im2 → t.im = s.im) ∧
    (i ≠ .di → i ≠ .ei → i ≠ .reti → i ≠ .retn → t.iff1 = s.iff1) ∧ (i ≠ .di → i ≠ .ei → t.iff2 = s.iff2) ∧
    (i ≠ .halt → t.halted = s.halted) ∧ (i ≠ .ei → t.eiShadow = s.eiShadow) ∧ t.fault = s.fault ∧
    t.lines = s.lines ∧ t.boundaryUsed = s.boundaryUsed ∧ t.bus.memRegions = s.bus.memRegions ∧ t.bus.ioRegions = s.bus.ioRegions

/-- The shadow bank is reached only by EX AF,AF' and EXX (R34): no other instruction changes it, and the meaning of
every other instruction is the same whatever it holds. -/
def Obligations.ShadowReachedOnlyByExchange : Prop :=
  ∀ (i : Instr) (s t : State) (k : Bank), i ≠ .exAfAf → i ≠ .exx → exec i s = .next t →
    t.shadow = s.shadow ∧ exec i { s with shadow := k } = .next { t with shadow := k }

/-- After an engine call that executed an instruction the EI shadow is on exactly if the instruction was EI (R50). -/
def Obligations.EiShadowAfterACall : Prop :=
  ∀ (s s1 t : State) (i : Instr) (bytes : List Byte), Running s → fetch s = .next ((i, bytes), s1) →
    step s = .next t → t.eiShadow = decide (i = .ei)

/-- An instruction sets the marks of exactly the registers and flag bits it writes, and keeps the others, set or not; the
three register exchanges move the marks with the values (R54). -/
def Obligations.MarksAreKept : Prop :=
  ∀ (i : Instr) (s t : State), exec i s = .next t →
    (i ≠ .exAfAf → i ≠ .exx → i ≠ .exDeHl →
      MarksKept s t ∧ (∀ m ∈ writesOf i.family s, t.marked m = true) ∧
      (∀ m, m ∉ writesOf i.family s → t.marked m = s.marked m) ∧ t.shadow.written = s.shadow.written) ∧
    (i = .exDeHl → t.written = s.written ∧ t.shadow.written = s.shadow.written ∧ t.main.written =
      { s.main.written with d := s.main.written.h, e := s.main.written.l, h := s.main.written.d, l := s.main.written.e }) ∧
    (i = .exAfAf → t.written = s.written ∧
      t.main.written = { s.main.written with a := s.shadow.written.a, f := s.shadow.written.f } ∧
      t.shadow.written = { s.shadow.written with a := s.main.written.a, f := s.main.written.f }) ∧
    (i = .exx → t.written = s.written ∧
      t.main.written = { s.shadow.written with a := s.main.written.a, f := s.main.written.f } ∧
      t.shadow.written = { s.main.written with a := s.shadow.written.a, f := s.shadow.written.f })

/-- The step under the rule on unwritten registers (R54, R509) is the plain step wherever every register is written. In an
engine call it ends with UnwrittenRegister at the first read of an unwritten register that its rule comes to, with the
accesses before that read performed, and is the plain step if an access fails first or no such read is there; an
acceptance reads SP, but for the one that fails in mode 0 on its data byte. -/
def Obligations.StrictStepAgreesWhenWritten : Prop :=
  (∀ s : State, s.allWritten → strictStep s = step s) ∧
  (∀ (s s1 u : State) (i : Instr) (bytes : List Byte), Running s → fetch s = .next ((i, bytes), s1) →
    u = s1.begin bytes → match firstUnwritten u (order i.family u) with
      | none => strictStep s = step s
      | some (m, before) =>
        strictStep s = .fault (.unwrittenRegister m.name s.pc (u.sees before).bus)) ∧
  (∀ (s : State) (r : Fault), Running s → fetch s = .fault r → strictStep s = .fault r) ∧
  (∀ s : State, s.fault = none → (nmiDue s = true ∨ intDue s = true) →
    (s.written.sp = true → strictStep s = step s) ∧
    (s.written.sp = false → (nmiDue s = true ∨ s.im ≠ .im0 ∨
        s.lines.intData.toNat / 64 = 3 ∧ s.lines.intData.toNat % 8 = 7) →
      strictStep s = .fault (.unwrittenRegister "SP" s.pc s.bus)))

/-- A host's register write (R530): an unknown name and a value out of range fail, and a write in range changes exactly
the named register, as a later read shows, and sets its mark (R54). -/
def Obligations.HostRegisterWrite : Prop :=
  (∀ (name : String) (v : Int) (s : State), debugReg name = none →
    setRegisterValue name v s = .error .unknownRegister ∧ getRegisterValue name s = .error .unknownRegister) ∧
  (∀ (name : String) (g : DebugReg) (v : Int) (s : State), debugReg name = some g →
    (v < 0 ∨ (2 : Int) ^ g.size ≤ v ∨ (g = .im ∧ v = 3) → setRegisterValue name v s = .error .valueOutOfRange) ∧
    (0 ≤ v → v < (2 : Int) ^ g.size → (g = .im → v ≠ 3) → ∃ t, setRegisterValue name v s = .ok t ∧
      getRegisterValue name t = .ok (v.toNat, t) ∧ t.fault = s.fault ∧ t.halted = s.halted ∧
      t.eiShadow = s.eiShadow ∧ t.boundaryUsed = s.boundaryUsed ∧ t.bus = s.bus ∧ t.lines = s.lines ∧
      (∀ p q, (t.bank p).written.get q = (decide (q ∈ (g.covers p).1) || (s.bank p).written.get q)) ∧
      (∀ p, (t.bank p).written.f = if (g.covers p).2 then Flags.all else (s.bank p).written.f) ∧
      t.written = { ix := g == .index .ix || s.written.ix, iy := g == .index .iy || s.written.iy
                    sp := g == .sp || s.written.sp } ∧
      (∀ p q, q ∉ (g.covers p).1 → (t.bank p).get q = (s.bank p).get q) ∧
      (∀ p, (g.covers p).2 = false → (t.bank p).f = (s.bank p).f) ∧
      (g ≠ .pc → t.pc = s.pc) ∧ (g ≠ .sp → t.sp = s.sp) ∧ (g ≠ .index .ix → t.ix = s.ix) ∧
      (g ≠ .index .iy → t.iy = s.iy) ∧ (g ≠ .i → t.i = s.i) ∧ (g ≠ .r → t.r = s.r) ∧ (g ≠ .im → t.im = s.im) ∧
      (g ≠ .iff1 → t.iff1 = s.iff1) ∧ (g ≠ .iff2 → t.iff2 = s.iff2)))

/-! ### 8-bit loads -/

/-- `LD r,r'` and `LD r,n` (R140, R141). -/
def Obligations.LoadRegister : Prop :=
  ∀ (i : Instr) (s : State) (dst : Reg8),
    (∀ src, i.family = .ldRR dst src → encode i = [opByte (64 + 8 * dst.code + src.code)] ∧
      ∃ t, exec i s = .next t ∧ t.reg8 dst = s.reg8 src ∧ t.pc = nextPc i s ∧ t.bus = s.bus ∧
        Frame { Changed.none with regs := [dst] } s t ∧ ControlFrame s t) ∧
    (∀ n, i.family = .ldRN dst n → encode i = [opByte (6 + 8 * dst.code), n] ∧
      ∃ t, exec i s = .next t ∧ t.reg8 dst = n ∧ t.pc = nextPc i s ∧ t.bus = s.bus ∧
        Frame { Changed.none with regs := [dst] } s t ∧ ControlFrame s t)

/-- The 8-bit loads from memory (R142, R143, R148, R149, R150). -/
def Obligations.LoadByteFromMemory : Prop :=
  ∀ (i : Instr) (s : State) (r : Reg8) (a : Word), byteLoad i.family s = some (r, a) →
    (∀ k, s.bus.readError (.mem a) = some k → exec i s = .fault (.busError k (.mem a) s.pc s.bus)) ∧
    (s.bus.readError (.mem a) = none →
      ∃ t, exec i s = .next t ∧ t.reg8 r = s.readValue (.mem a) ∧ t.pc = nextPc i s ∧
        t.bus = (s.sawRead (.mem a)).bus ∧ Frame { Changed.none with regs := [r] } s t ∧ ControlFrame s t)

/-- The 8-bit stores (R144 to R147, R151 to R153). -/
def Obligations.StoreByte : Prop :=
  ∀ (i : Instr) (s : State) (a : Word) (v : Byte), byteStore i.family s = some (a, v) →
    (∀ k, s.bus.writeError (.mem a) = some k → exec i s = .fault (.busError k (.mem a) s.pc s.bus)) ∧
    (s.bus.writeError (.mem a) = none →
      ∃ t, exec i s = .next t ∧ t.pc = nextPc i s ∧ t.bus = (s.sawWrite (.mem a) v).bus ∧
        (s.canonical = true → s.bus.isDevice (.mem a) = false → t.bus.stored (.mem a) = v) ∧
        Frame { Changed.none with bytes := [.mem a] } s t ∧ ControlFrame s t)

/-- The effective address of an indexed operand (R112) and the target of a relative jump (R113), in the integers. -/
def Obligations.IndexedAddress : Prop :=
  ∀ (s : State) (x : Index) (d e : Int),
    s.ea x d = trunc16 ((s.index x).toNat + d) ∧ s.relative e = trunc16 (s.pc.toNat + 2 + e)

/-- LD A,I and LD A,R with their flags (R154, R155), LD I,A and LD R,A (R156, R157). -/
def Obligations.LoadControlRegisters : Prop :=
  ∀ (i : Instr) (s : State),
    (i.family = .ldAI ∨ i.family = .ldAR →
      ∃ t, exec i s = .next t ∧ t.main.a = (if i.family = .ldAI then s.i else s.r) ∧
        FlagsAre t.main.f t.main.a.msb (t.main.a == 0) false s.iff2 false s.main.f.c ∧ t.pc = nextPc i s ∧
        t.bus = s.bus ∧ Frame { Changed.none with regs := [.a], flags := true } s t ∧ ControlFrame s t) ∧
    (i.family = .ldIA → exec i s = .next { s with i := s.main.a, pc := nextPc i s }) ∧
    (i.family = .ldRA → exec i s = .next { s with r := s.main.a, pc := nextPc i s })

/-! ### 16-bit loads and the stack -/

/-- `LD dd,nn`, `LD XY,nn`, `LD SP,HL` and `LD SP,XY` (R170, R171, R178, R179). -/
def Obligations.LoadPair : Prop :=
  ∀ (i : Instr) (s : State),
    (∀ dd nn, i.family = .ldDdNn dd nn → ∃ t, exec i s = .next t ∧ t.pair dd = nn ∧ t.pc = nextPc i s ∧
      t.bus = s.bus ∧ ControlFrame s t ∧
      Frame dd.changed s t) ∧
    (∀ x nn, i.family = .ldXyNn x nn → ∃ t, exec i s = .next t ∧ t.index x = nn ∧ t.pc = nextPc i s ∧
      t.bus = s.bus ∧ ControlFrame s t ∧ Frame { Changed.none with index := [x] } s t) ∧
    (∀ v, (i.family = .ldSpHl ∧ v = s.hl ∨ ∃ x, i.family = .ldSpXy x ∧ v = s.index x) →
      ∃ t, exec i s = .next t ∧ t.sp = v ∧ t.pc = nextPc i s ∧ t.bus = s.bus ∧ ControlFrame s t ∧
        Frame { Changed.none with sp := true } s t)

/-- The 16-bit loads from memory (R172, R173, R174): two byte reads, the low byte first, and where the second fails the
first has been performed (R75). -/
def Obligations.LoadWordFromMemory : Prop :=
  ∀ (i : Instr) (s : State) (nn : Word),
    ((∃ p, pairLoad i.family = some (p, nn)) ∨ ∃ x, i.family = .ldXyFrom x nn) →
    (∀ k, s.bus.readError (.mem nn) = some k → exec i s = .fault (.busError k (.mem nn) s.pc s.bus)) ∧
    (∀ k, s.bus.readError (.mem nn) = none → s.bus.readError (.mem (nn + 1)) = some k →
      exec i s = .fault (.busError k (.mem (nn + 1)) s.pc (s.sawRead (.mem nn)).bus)) ∧
    (s.bus.readError (.mem nn) = none → s.bus.readError (.mem (nn + 1)) = none →
      (∀ p, pairLoad i.family = some (p, nn) → ∃ t, exec i s = .next t ∧ t.pair p = s.readWord nn ∧
        t.pc = nextPc i s ∧ t.bus = (s.sawReadWord nn).bus ∧ ControlFrame s t ∧ Frame p.changed s t) ∧
      (∀ x, i.family = .ldXyFrom x nn → ∃ t, exec i s = .next t ∧ t.index x = s.readWord nn ∧
        t.pc = nextPc i s ∧ t.bus = (s.sawReadWord nn).bus ∧ ControlFrame s t ∧
        Frame { Changed.none with index := [x] } s t))

/-- The 16-bit stores (R175 to R177), the low byte first and at the lower address (R76, R82); one whose second byte
cannot be written has written the first (R504). -/
def Obligations.StoreWord : Prop :=
  ∀ (i : Instr) (s : State) (nn v : Word), wordStore i.family s = some (nn, v) →
    (∀ k, s.bus.writeError (.mem nn) = some k → exec i s = .fault (.busError k (.mem nn) s.pc s.bus)) ∧
    (∀ k, s.bus.writeError (.mem nn) = none → s.bus.writeError (.mem (nn + 1)) = some k →
      exec i s = .fault (.busError k (.mem (nn + 1)) s.pc (s.sawWrite (.mem nn) (trunc8 v.toNat)).bus)) ∧
    (s.bus.writeError (.mem nn) = none → s.bus.writeError (.mem (nn + 1)) = none →
      ∃ t, exec i s = .next t ∧ t.pc = nextPc i s ∧ t.bus = (s.sawWriteWord nn v).bus ∧
        (s.canonical = true → s.wordInStorage nn →
          t.bus.stored (.mem nn) = trunc8 v.toNat ∧ t.bus.stored (.mem (nn + 1)) = trunc8 (v.toNat / 256 : Nat)) ∧
        Frame { Changed.none with bytes := [.mem nn, .mem (nn + 1)] } s t ∧ ControlFrame s t)

/-- PUSH (R84, R180, R181). -/
def Obligations.PushStores : Prop :=
  ∀ (i : Instr) (s : State) (v : Word), pushed i.family s = some v → Completes i s →
    ∃ t, exec i s = .next t ∧ t.sp = trunc16 ((s.sp.toNat : Int) - 2) ∧ t.pc = nextPc i s ∧
      t.bus = (s.sawWriteWord (s.sp - 2) v).bus ∧
      (s.canonical = true → s.wordInStorage (s.sp - 2) → t.storedWord t.sp = v) ∧
      Frame { Changed.none with sp := true, bytes := [.mem (s.sp - 2), .mem (s.sp - 2 + 1)] } s t ∧ ControlFrame s t

/-- POP (R85, R182, R183); POP AF writes all eight bits of F (R37). -/
def Obligations.PopLoads : Prop :=
  ∀ (i : Instr) (s : State), Completes i s →
    (∀ q, i.family = .pop q → ∃ t, exec i s = .next t ∧ t.stackPair q = s.readWord s.sp ∧
      t.sp = trunc16 (s.sp.toNat + 2) ∧ t.pc = nextPc i s ∧ t.bus = (s.sawReadWord s.sp).bus ∧ ControlFrame s t ∧
      Frame q.changed s t) ∧
    (∀ x, i.family = .popXy x → ∃ t, exec i s = .next t ∧ t.index x = s.readWord s.sp ∧
      t.sp = trunc16 (s.sp.toNat + 2) ∧ t.pc = nextPc i s ∧ t.bus = (s.sawReadWord s.sp).bus ∧ ControlFrame s t ∧
      Frame { Changed.none with sp := true, index := [x] } s t)

/-! ### Exchange, block transfer and search -/

/-- EX DE,HL, EX AF,AF' and EXX (R200, R201, R202); each of them done twice restores the state but for PC (R34). -/
def Obligations.ExchangeRegisters : Prop :=
  ∀ (i : Instr) (s : State),
    (i.family = .exDeHl → ∃ t, exec i s = .next t ∧ t.de = s.hl ∧ t.hl = s.de ∧ t.pc = nextPc i s ∧ t.bus = s.bus ∧
      Frame { Changed.none with regs := [.d, .e, .h, .l] } s t ∧ ControlFrame s t) ∧
    (i.family = .exAf → ∃ t, exec i s = .next t ∧ t.main.a = s.shadow.a ∧ t.main.f = s.shadow.f ∧
      t.shadow = { s.shadow with a := s.main.a, f := s.main.f, written := t.shadow.written } ∧ t.pc = nextPc i s ∧
      t.bus = s.bus ∧ Frame { Changed.none with regs := [.a], flags := true } s t ∧
      ControlFrame s { t with shadow := s.shadow }) ∧
    (i.family = .exx → ∃ t, exec i s = .next t ∧
      (∀ r, r ≠ .a → t.main.get r = s.shadow.get r ∧ t.shadow.get r = s.main.get r) ∧ t.shadow.a = s.shadow.a ∧
      t.shadow.f = s.shadow.f ∧ t.pc = nextPc i s ∧ t.bus = s.bus ∧
      Frame { Changed.none with regs := [.b, .c, .d, .e, .h, .l] } s t ∧
      ControlFrame s { t with shadow := s.shadow }) ∧
    (∀ t u, (i.family = .exDeHl ∨ i.family = .exAf ∨ i.family = .exx) → exec i s = .next t → exec i t = .next u →
      u = { s with pc := trunc16 (s.pc.toNat + 2) })

/-- EX (SP),HL and EX (SP),XY: two reads, then two writes, low byte first (R203, R204). -/
def Obligations.ExchangeStack : Prop :=
  ∀ (i : Instr) (s : State), Completes i s →
    (i.family = .exSpHl → ∃ t, exec i s = .next t ∧ t.hl = s.readWord s.sp ∧ t.pc = nextPc i s ∧
      t.bus = ((s.sawReadWord s.sp).sawWriteWord s.sp s.hl).bus ∧ ControlFrame s t ∧
      (s.canonical = true → s.wordInStorage s.sp → t.storedWord s.sp = s.hl) ∧
      Frame { Changed.none with regs := [.h, .l], bytes := [.mem s.sp, .mem (s.sp + 1)] } s t) ∧
    (∀ x, i.family = .exSpXy x → ∃ t, exec i s = .next t ∧ t.index x = s.readWord s.sp ∧ t.pc = nextPc i s ∧
      t.bus = ((s.sawReadWord s.sp).sawWriteWord s.sp (s.index x)).bus ∧ ControlFrame s t ∧
      (s.canonical = true → s.wordInStorage s.sp → t.storedWord s.sp = s.index x) ∧
      Frame { Changed.none with index := [x], bytes := [.mem s.sp, .mem (s.sp + 1)] } s t)

/-- One step of LDI, LDIR, LDD or LDDR (R205 to R209). -/
def Obligations.BlockTransfer : Prop :=
  ∀ (i : Instr) (s : State) (dir : Dir) (rep : Bool), i.family = .ldBlock dir rep → Completes i s →
    ∃ t, exec i s = .next t ∧ t.hl = trunc16 (s.hl.toNat + dir.delta) ∧ t.de = trunc16 (s.de.toNat + dir.delta) ∧
      t.bc = trunc16 ((s.bc.toNat : Int) - 1) ∧
      FlagsAre t.main.f s.main.f.s s.main.f.z false (t.bc != 0) false s.main.f.c ∧
      t.pc = (if rep = true ∧ t.bc ≠ 0 then s.pc else nextPc i s) ∧
      t.bus = ((s.sawRead (.mem s.hl)).sawWrite (.mem s.de) (s.readValue (.mem s.hl))).bus ∧
      Frame { Changed.none with regs := [.b, .c, .d, .e, .h, .l], flags := true, bytes := [.mem s.de] } s t ∧
      ControlFrame s t

/-- One step of CPI, CPIR, CPD or CPDR (R205, R210 to R213). -/
def Obligations.BlockSearch : Prop :=
  ∀ (i : Instr) (s : State) (dir : Dir) (rep : Bool), i.family = .cpBlock dir rep → Completes i s →
    ∃ t v res, exec i s = .next t ∧ v = s.readValue (.mem s.hl) ∧ res = trunc8 ((s.main.a.toNat : Int) - v.toNat) ∧
      t.hl = trunc16 (s.hl.toNat + dir.delta) ∧ t.bc = trunc16 ((s.bc.toNat : Int) - 1) ∧
      FlagsAre t.main.f res.msb (res == 0) (decide (s.main.a.toNat % 16 < v.toNat % 16)) (t.bc != 0) true
        s.main.f.c ∧
      t.pc = (if rep = true ∧ t.bc ≠ 0 ∧ s.main.a ≠ v then s.pc else nextPc i s) ∧
      t.bus = (s.sawRead (.mem s.hl)).bus ∧
      Frame { Changed.none with regs := [.b, .c, .h, .l], flags := true } s t ∧ ControlFrame s t

/-! ### 8-bit arithmetic and logic -/

/-- ADD A,s and ADC A,s in every operand form (R230, R234, R240 to R247). -/
def Obligations.AddBytes : Prop :=
  ∀ (i : Instr) (s u : State) (op : AluOp) (v : Byte) (c : Bool), aluOperand i.family s = some (op, v, u) →
    (op = .add ∧ c = false ∨ op = .adc ∧ c = s.main.f.c) → Completes i s →
    ∃ t, exec i s = .next t ∧ t.main.a = trunc8 (s.main.a.toNat + v.toNat + c.toNat) ∧
      FlagsAre t.main.f t.main.a.msb (t.main.a == 0)
        (decide (s.main.a.toNat % 16 + v.toNat % 16 + c.toNat > 15))
        (s.main.a.msb == v.msb && t.main.a.msb != v.msb) false
        (decide (s.main.a.toNat + v.toNat + c.toNat > 255)) ∧
      t.pc = nextPc i s ∧ t.bus = u.bus ∧ Frame { Changed.none with regs := [.a], flags := true } s t ∧
      ControlFrame s t

/-- SUB, SBC and CP in every operand form (R231, R234, R248 to R255, R268 to R271): CP leaves A alone. -/
def Obligations.SubtractBytes : Prop :=
  ∀ (i : Instr) (s u : State) (op : AluOp) (v : Byte) (c : Bool), aluOperand i.family s = some (op, v, u) →
    ((op = .sub ∨ op = .cp) ∧ c = false ∨ op = .sbc ∧ c = s.main.f.c) → Completes i s →
    ∃ t res, exec i s = .next t ∧ res = trunc8 ((s.main.a.toNat : Int) - v.toNat - c.toNat) ∧
      t.main.a = (if op = .cp then s.main.a else res) ∧
      FlagsAre t.main.f res.msb (res == 0) (decide (s.main.a.toNat % 16 < v.toNat % 16 + c.toNat))
        (s.main.a.msb != v.msb && res.msb == v.msb) true (decide (s.main.a.toNat < v.toNat + c.toNat)) ∧
      t.pc = nextPc i s ∧ t.bus = u.bus ∧
      Frame { Changed.none with regs := (if op = .cp then [] else [.a]), flags := true } s t ∧ ControlFrame s t

/-- AND, XOR and OR in every operand form (R232, R234, R256 to R267). -/
def Obligations.LogicBytes : Prop :=
  ∀ (i : Instr) (s u : State) (op : AluOp) (v : Byte), aluOperand i.family s = some (op, v, u) →
    (op = .and ∨ op = .xor ∨ op = .or) → Completes i s →
    ∃ t, exec i s = .next t ∧
      (∀ k, k < 8 → t.main.a.getLsbD k =
        (if op = .and then s.main.a.getLsbD k && v.getLsbD k
         else if op = .xor then s.main.a.getLsbD k != v.getLsbD k
         else s.main.a.getLsbD k || v.getLsbD k)) ∧
      FlagsAre t.main.f t.main.a.msb (t.main.a == 0) (op == .and) (evenOnes t.main.a) false false ∧
      t.pc = nextPc i s ∧ t.bus = u.bus ∧ Frame { Changed.none with regs := [.a], flags := true } s t ∧
      ControlFrame s t

/-- INC and DEC of a register and of a byte of memory (R235, R236, R272 to R277): C is unchanged. -/
def Obligations.IncrementByte : Prop :=
  ∀ (i : Instr) (s : State) (up : Bool) (o : Operand), incDecOperand i.family s = some (up, o) → Completes i s →
    ∃ t res, exec i s = .next t ∧ res = trunc8 ((o.value s).toNat + (if up then 1 else -1)) ∧ o.Wrote res s t ∧
      FlagsAre t.main.f res.msb (res == 0) (decide ((o.value s).toNat % 16 = if up then 15 else 0))
        (o.value s == if up then 0x7F#8 else 0x80#8) (!up) s.main.f.c ∧
      t.pc = nextPc i s ∧ Frame (o.changed true) s t ∧ ControlFrame s t

/-! ### General-purpose arithmetic and CPU control -/

/-- DAA on every value of A, H, N and C (R300). -/
def Obligations.DecimalAdjust : Prop :=
  ∀ (i : Instr) (s : State) (a lo t : Nat), i.family = .daa → a = s.main.a.toNat → lo = a % 16 →
    t = (if s.main.f.h = true ∨ lo > 9 then 6 else 0) + (if s.main.f.c = true ∨ a > 0x99 then 0x60 else 0) →
    encode i = [0x27#8] ∧ ∃ u, exec i s = .next u ∧ u.main.a = trunc8 (if s.main.f.n then (a : Int) - t else a + t) ∧
      FlagsAre u.main.f u.main.a.msb (u.main.a == 0)
        (if s.main.f.n then s.main.f.h && decide (lo < 6) else decide (lo > 9)) (evenOnes u.main.a) s.main.f.n
        (s.main.f.c || decide (a > 0x99)) ∧
      u.pc = nextPc i s ∧ u.bus = s.bus ∧ Frame { Changed.none with regs := [.a], flags := true } s u ∧
      ControlFrame s u

/-- CPL, NEG, CCF and SCF (R301 to R304). -/
def Obligations.AccumulatorAndFlags : Prop :=
  ∀ (i : Instr) (s : State),
    (i.family = .cpl → encode i = [0x2F#8] ∧ ∃ t, exec i s = .next t ∧
      (∀ k, k < 8 → t.main.a.getLsbD k = !s.main.a.getLsbD k) ∧
      CarryFlagsAre s t true true s.main.f.c ∧ t.pc = nextPc i s ∧ t.bus = s.bus ∧ ControlFrame s t ∧
      Frame { Changed.none with regs := [.a], flags := true } s t) ∧
    (i.family = .neg → encode i = [0xED#8, 0x44#8] ∧ ∃ t, exec i s = .next t ∧ t.main.a = trunc8 (-(s.main.a.toNat : Int)) ∧
      FlagsAre t.main.f t.main.a.msb (t.main.a == 0) (decide (s.main.a.toNat % 16 ≠ 0)) (s.main.a == 0x80#8) true
        (s.main.a != 0) ∧
      t.pc = nextPc i s ∧ t.bus = s.bus ∧ ControlFrame s t ∧
      Frame { Changed.none with regs := [.a], flags := true } s t) ∧
    (i.family = .ccf → encode i = [0x3F#8] ∧ ∃ t, exec i s = .next t ∧ CarryFlagsAre s t s.main.f.c false (!s.main.f.c) ∧
      t.pc = nextPc i s ∧ t.bus = s.bus ∧ ControlFrame s t ∧ Frame { Changed.none with flags := true } s t) ∧
    (i.family = .scf → encode i = [0x37#8] ∧ ∃ t, exec i s = .next t ∧ CarryFlagsAre s t false false true ∧
      t.pc = nextPc i s ∧ t.bus = s.bus ∧ ControlFrame s t ∧ Frame { Changed.none with flags := true } s t)

/-- NOP, HALT, DI, EI and IM: the whole next state (R305 to R311). -/
def Obligations.CpuControl : Prop :=
  ∀ (i : Instr) (s : State),
    (i.family = .nop → encode i = [0x00#8] ∧ exec i s = .next { s with pc := nextPc i s }) ∧
    (i.family = .halt → encode i = [0x76#8] ∧ exec i s = .next { s with halted := true, pc := nextPc i s }) ∧
    (i.family = .di → encode i = [0xF3#8] ∧ exec i s = .next { s with iff1 := false, iff2 := false, pc := nextPc i s }) ∧
    (i.family = .ei → encode i = [0xFB#8] ∧
      exec i s = .next { s with iff1 := true, iff2 := true, eiShadow := true, pc := nextPc i s }) ∧
    (∀ m, i.family = .im m → encode i = [0xED#8, match m with | .im0 => 0x46#8 | .im1 => 0x56#8 | .im2 => 0x5E#8] ∧
      exec i s = .next { s with im := m, pc := nextPc i s })

/-! ### 16-bit arithmetic -/

/-- ADD HL,ss and ADD XY,pp: S, Z and P/V are unchanged (R320, R322, R325). -/
def Obligations.AddWords : Prop :=
  ∀ (i : Instr) (s : State),
    (∀ p, i.family = .addHl p → ∃ t, exec i s = .next t ∧ t.hl = trunc16 (s.hl.toNat + (s.pair p).toNat) ∧
      CarryFlagsAre s t (decide (s.hl.toNat % 4096 + (s.pair p).toNat % 4096 ≥ 4096)) false
        (decide (s.hl.toNat + (s.pair p).toNat ≥ 65536)) ∧
      t.pc = nextPc i s ∧ t.bus = s.bus ∧ ControlFrame s t ∧
      Frame { Changed.none with regs := [.h, .l], flags := true } s t) ∧
    (∀ x p, i.family = .addXy x p → ∃ t v, exec i s = .next t ∧
      v = (match p with | .bc => s.bc | .de => s.de | .self => s.index x | .sp => s.sp) ∧
      t.index x = trunc16 ((s.index x).toNat + v.toNat) ∧
      CarryFlagsAre s t (decide ((s.index x).toNat % 4096 + v.toNat % 4096 ≥ 4096)) false
        (decide ((s.index x).toNat + v.toNat ≥ 65536)) ∧
      t.pc = nextPc i s ∧ t.bus = s.bus ∧ ControlFrame s t ∧
      Frame { Changed.none with index := [x], flags := true } s t)

/-- ADC HL,ss and SBC HL,ss (R321, R323, R324). -/
def Obligations.AddSubtractWordsWithCarry : Prop :=
  ∀ (i : Instr) (s : State) (p : Pair) (a v c : Nat), a = s.hl.toNat → v = (s.pair p).toNat → c = s.main.f.c.toNat →
    (i.family = .adcHl p → ∃ t, exec i s = .next t ∧ t.hl = trunc16 (a + v + c) ∧
      FlagsAre t.main.f t.hl.msb (t.hl == 0) (decide (a % 4096 + v % 4096 + c ≥ 4096))
        (s.hl.msb == (s.pair p).msb && t.hl.msb != (s.pair p).msb) false (decide (a + v + c ≥ 65536)) ∧
      t.pc = nextPc i s ∧ t.bus = s.bus ∧ ControlFrame s t ∧
      Frame { Changed.none with regs := [.h, .l], flags := true } s t) ∧
    (i.family = .sbcHl p → ∃ t, exec i s = .next t ∧ t.hl = trunc16 ((a : Int) - v - c) ∧
      FlagsAre t.main.f t.hl.msb (t.hl == 0) (decide (a % 4096 < v % 4096 + c))
        (s.hl.msb != (s.pair p).msb && t.hl.msb == (s.pair p).msb) true (decide (a < v + c)) ∧
      t.pc = nextPc i s ∧ t.bus = s.bus ∧ ControlFrame s t ∧
      Frame { Changed.none with regs := [.h, .l], flags := true } s t)

/-- INC and DEC of a pair, SP and an index register: no flag is written (R326 to R329). -/
def Obligations.IncrementWord : Prop :=
  ∀ (i : Instr) (s : State) (delta : Int),
    (∀ p, (i.family = .incSs p ∧ delta = 1 ∨ i.family = .decSs p ∧ delta = -1) →
      ∃ t, exec i s = .next t ∧ t.pair p = trunc16 ((s.pair p).toNat + delta) ∧ t.pc = nextPc i s ∧ t.bus = s.bus ∧
        ControlFrame s t ∧
        Frame p.changed s t) ∧
    (∀ x, (i.family = .incXy x ∧ delta = 1 ∨ i.family = .decXy x ∧ delta = -1) →
      ∃ t, exec i s = .next t ∧ t.index x = trunc16 ((s.index x).toNat + delta) ∧ t.pc = nextPc i s ∧ t.bus = s.bus ∧
        ControlFrame s t ∧ Frame { Changed.none with index := [x] } s t)

/-! ### Rotates, shifts and bits -/

/-- The accumulator rotates, which leave S, Z and P/V unchanged, and the CB-table rotates and shifts of a register and of
a byte of memory (R340 to R366). -/
def Obligations.RotatesAndShifts : Prop :=
  (∀ (i : Instr) (s : State) (op : ShiftOp), i.family = .rotA op →
    ∃ t, exec i s = .next t ∧ Shifted op s.main.a s.main.f.c t.main.a t.main.f.c ∧
      CarryFlagsAre s t false false t.main.f.c ∧ t.pc = nextPc i s ∧ t.bus = s.bus ∧
      Frame { Changed.none with regs := [.a], flags := true } s t ∧ ControlFrame s t) ∧
  (∀ (i : Instr) (s : State) (op : ShiftOp) (o : Operand), shiftOperand i.family s = some (op, o) → Completes i s →
    ∃ t res, exec i s = .next t ∧ Shifted op (o.value s) s.main.f.c res t.main.f.c ∧ o.Wrote res s t ∧
      FlagsAre t.main.f res.msb (res == 0) false (evenOnes res) false t.main.f.c ∧
      t.pc = nextPc i s ∧ Frame (o.changed true) s t ∧ ControlFrame s t)

/-- RLD and RRD rotate the low nibble of A and the byte at HL as one 12-bit number by four places (R367, R368; the
direction is the spec's provisional one, log entry 17). -/
def Obligations.DigitRotates : Prop :=
  ∀ (i : Instr) (s : State) (v q : Nat), (i.family = .rld ∨ i.family = .rrd) → Completes i s →
    v = s.main.a.toNat % 16 * 256 + (s.readValue (.mem s.hl)).toNat →
    q = (if i.family = .rld then v * 16 % 4096 + v / 256 else v / 16 + v % 16 * 256) →
    ∃ t, exec i s = .next t ∧ t.main.a = trunc8 (s.main.a.toNat / 16 * 16 + q / 256 : Nat) ∧
      t.bus = ((s.sawRead (.mem s.hl)).sawWrite (.mem s.hl) (trunc8 (q % 256 : Nat))).bus ∧
      FlagsAre t.main.f t.main.a.msb (t.main.a == 0) false (evenOnes t.main.a) false s.main.f.c ∧
      t.pc = nextPc i s ∧ Frame { Changed.none with regs := [.a], flags := true, bytes := [.mem s.hl] } s t ∧
      ControlFrame s t

/-- BIT: Z, H, N and C; S and P/V are free values, of which nothing is said (R380 to R382). -/
def Obligations.BitTest : Prop :=
  ∀ (i : Instr) (s : State) (b : Fin 8) (o : Operand), bitOperand i.family s = some (b, o) → Completes i s →
    ∃ t, exec i s = .next t ∧ t.main.f.z = !(o.value s).getLsbD b.val ∧ t.main.f.h = true ∧ t.main.f.n = false ∧
      t.main.f.c = s.main.f.c ∧ t.pc = nextPc i s ∧ o.OnlyRead s t ∧
      Frame { Changed.none with flags := true } s t ∧ ControlFrame s t

/-- SET and RES of a register and of a byte of memory: no flag is written (R383 to R388). -/
def Obligations.BitSetReset : Prop :=
  ∀ (i : Instr) (s : State) (up : Bool) (b : Fin 8) (o : Operand), setResOperand i.family s = some (up, b, o) →
    Completes i s →
    ∃ t res, exec i s = .next t ∧
      (∀ k, k < 8 → res.getLsbD k = if k = b.val then up else (o.value s).getLsbD k) ∧ o.Wrote res s t ∧
      t.pc = nextPc i s ∧ Frame (o.changed false) s t ∧ ControlFrame s t

/-! ### Jumps, calls and returns -/

/-- The jumps write PC and nothing else, DJNZ B too; the condition is read off the byte F (R400 to R407). -/
def Obligations.Jumps : Prop :=
  ∀ (i : Instr) (s : State),
    (∀ nn, i.family = .jp nn → exec i s = .next { s with pc := nn }) ∧
    (∀ cc nn, i.family = .jpCc cc nn →
      exec i s = .next { s with pc := if cc.met s.main.f then nn else nextPc i s }) ∧
    (∀ e, i.family = .jr e → exec i s = .next { s with pc := trunc16 (s.pc.toNat + 2 + e) }) ∧
    (∀ cc e, i.family = .jrCc cc e →
      exec i s = .next { s with pc := if cc.met s.main.f then trunc16 (s.pc.toNat + 2 + e) else nextPc i s }) ∧
    (i.family = .jpHl → exec i s = .next { s with pc := s.hl }) ∧
    (∀ x, i.family = .jpXy x → exec i s = .next { s with pc := s.index x }) ∧
    (∀ e, i.family = .djnz e → ∃ t, exec i s = .next t ∧ t.main.b = trunc8 ((s.main.b.toNat : Int) - 1) ∧
      t.pc = (if t.main.b ≠ 0 then trunc16 (s.pc.toNat + 2 + e) else nextPc i s) ∧ t.bus = s.bus ∧
      Frame { Changed.none with regs := [.b] } s t ∧ ControlFrame s t)

/-- CALL, CALL cc and RST push the address of the next instruction and jump; a call not taken only advances PC
(R408, R409, R414). -/
def Obligations.Calls : Prop :=
  ∀ (i : Instr) (s : State), Completes i s →
    (∀ target, (i.family = .call target ∨ (∃ cc, i.family = .callCc cc target ∧ cc.met s.main.f = true) ∨
        ∃ p, i.family = .rst p ∧ target = trunc16 (8 * p.val : Nat)) →
      ∃ t, exec i s = .next t ∧ t.pc = target ∧ t.sp = trunc16 ((s.sp.toNat : Int) - 2) ∧
        t.bus = (s.sawWriteWord (s.sp - 2) (nextPc i s)).bus ∧
        (s.canonical = true → s.wordInStorage (s.sp - 2) → t.storedWord t.sp = nextPc i s) ∧
        Frame { Changed.none with sp := true, bytes := [.mem (s.sp - 2), .mem (s.sp - 2 + 1)] } s t ∧
        ControlFrame s t) ∧
    (∀ cc nn, i.family = .callCc cc nn → cc.met s.main.f = false → exec i s = .next { s with pc := nextPc i s })

/-- RET, RET cc, RETI and RETN pop PC; RETI and RETN copy IFF2 into IFF1 (R410 to R413). -/
def Obligations.Returns : Prop :=
  ∀ (i : Instr) (s : State), Completes i s →
    ((i.family = .ret ∨ i.family = .reti ∨ i.family = .retn ∨
        ∃ cc, i.family = .retCc cc ∧ cc.met s.main.f = true) →
      ∃ t, exec i s = .next t ∧ t.pc = s.readWord s.sp ∧ t.sp = trunc16 (s.sp.toNat + 2) ∧
        t.bus = (s.sawReadWord s.sp).bus ∧
        t.iff1 = (if i.family = .reti ∨ i.family = .retn then s.iff2 else s.iff1) ∧
        Frame { Changed.none with sp := true } s t ∧ ControlFrame s { t with iff1 := s.iff1 }) ∧
    (∀ cc, i.family = .retCc cc → cc.met s.main.f = false → exec i s = .next { s with pc := nextPc i s })

/-! ### Input and output -/

/-- IN A,(n) writes no flag; IN r,(C) writes all but C (R431, R432). -/
def Obligations.Input : Prop :=
  ∀ (i : Instr) (s : State),
    (∀ n, i.family = .inAN n →
      (∀ k, s.bus.readError (.io n) = some k → exec i s = .fault (.busError k (.io n) s.pc s.bus)) ∧
      (s.bus.readError (.io n) = none → ∃ t, exec i s = .next t ∧ t.main.a = s.readValue (.io n) ∧
        t.pc = nextPc i s ∧ t.bus = (s.sawRead (.io n)).bus ∧ Frame { Changed.none with regs := [.a] } s t ∧
        ControlFrame s t)) ∧
    (∀ r, i.family = .inRC r →
      (∀ k, s.bus.readError (.io s.main.c) = some k → exec i s = .fault (.busError k (.io s.main.c) s.pc s.bus)) ∧
      (s.bus.readError (.io s.main.c) = none → ∃ t, exec i s = .next t ∧ t.reg8 r = s.readValue (.io s.main.c) ∧
        FlagsAre t.main.f (t.reg8 r).msb (t.reg8 r == 0) false (evenOnes (t.reg8 r)) false s.main.f.c ∧
        t.pc = nextPc i s ∧ t.bus = (s.sawRead (.io s.main.c)).bus ∧
        Frame { Changed.none with regs := [r], flags := true } s t ∧ ControlFrame s t))

/-- OUT (n),A and OUT (C),r: the port is written exactly once, and no register or flag (R437, R438). -/
def Obligations.Output : Prop :=
  ∀ (i : Instr) (s : State) (port v : Byte),
    (i.family = .outNA port ∧ v = s.main.a ∨ ∃ r, i.family = .outCR r ∧ port = s.main.c ∧ v = s.reg8 r) →
    (∀ k, s.bus.writeError (.io port) = some k → exec i s = .fault (.busError k (.io port) s.pc s.bus)) ∧
    (s.bus.writeError (.io port) = none → ∃ t, exec i s = .next t ∧ t.pc = nextPc i s ∧
      t.bus = (s.sawWrite (.io port) v).bus ∧
      (s.bus.isDevice (.io port) = true → t.bus.log = .write (.io port) v :: s.bus.log) ∧
      Frame { Changed.none with bytes := [.io port] } s t ∧ ControlFrame s t)

/-- One step of a block input or output: B counts, HL steps, Z says that B is 0; the other flags are free values
(R430, R433 to R436, R439 to R442). -/
def Obligations.BlockInputOutput : Prop :=
  ∀ (i : Instr) (s : State) (dir : Dir) (rep : Bool),
    (i.family = .inBlock dir rep ∨ i.family = .outBlock dir rep) → Completes i s →
    ∃ t, exec i s = .next t ∧ t.main.b = trunc8 ((s.main.b.toNat : Int) - 1) ∧
      t.hl = trunc16 (s.hl.toNat + dir.delta) ∧ t.main.f.z = (t.main.b == 0) ∧
      t.pc = (if rep = true ∧ t.main.b ≠ 0 then s.pc else nextPc i s) ∧
      (i.family = .inBlock dir rep →
        t.bus = ((s.sawRead (.io s.main.c)).sawWrite (.mem s.hl) (s.readValue (.io s.main.c))).bus ∧
        Frame { Changed.none with regs := [.b, .h, .l], flags := true, bytes := [.mem s.hl] } s t) ∧
      (i.family = .outBlock dir rep →
        t.bus = ((s.sawRead (.mem s.hl)).sawWrite (.io s.main.c) (s.readValue (.mem s.hl))).bus ∧
        Frame { Changed.none with regs := [.b, .h, .l], flags := true, bytes := [.io s.main.c] } s t) ∧
      ControlFrame s t
end

