-- ==== Sys2Proof/Laws/Family.lean ====
section
/-! SUPPORT. What `exec` does, family by family: the 698 meanings are instances of about ninety shared ones. -/

namespace Sys2Proof

open Sys2Proof.Machine

/-- The shared meaning of a family. -/
def Family.exec (f : Family) (s : State) : Out State :=
  match f with
  | .ldRR dst src => .next ((s.setReg8 dst (s.reg8 src)).advance 1)
  | .ldRN dst n => .next ((s.setReg8 dst n).advance 2)
  | .ldRHl dst => loadReg dst s.hl 1 s
  | .ldRIdx r x d => loadReg r (s.ea x d) 3 s
  | .ldHlR r => storeByte s.hl (s.reg8 r) 1 s
  | .ldIdxR x d r => storeByte (s.ea x d) (s.reg8 r) 3 s
  | .ldHlN n => storeByte s.hl n 2 s
  | .ldIdxN x d n => storeByte (s.ea x d) n 4 s
  | .ldABc => loadReg .a s.bc 1 s
  | .ldADe => loadReg .a s.de 1 s
  | .ldANn nn => loadReg .a nn 3 s
  | .ldBcA => storeByte s.bc s.main.a 1 s
  | .ldDeA => storeByte s.de s.main.a 1 s
  | .ldNnA nn => storeByte nn s.main.a 3 s
  | .ldAI => loadAFrom s.i s
  | .ldAR => loadAFrom s.r s
  | .ldIA => .next ({ s with i := s.main.a }.advance 2)
  | .ldRA => .next ({ s with r := s.main.a }.advance 2)
  | .ldDdNn dd nn => .next ((s.setPair dd nn).advance 3)
  | .ldXyNn x nn => .next ((s.setIndex x nn).advance 4)
  | .ldHlFrom nn => loadPair .hl nn 3 s
  | .ldDdFrom dd nn => loadPair dd nn 4 s
  | .ldXyFrom x nn => loadIndex x nn s
  | .ldNnHl nn => storeWord nn s.hl 3 s
  | .ldNnDd nn dd => storeWord nn (s.pair dd) 4 s
  | .ldNnXy nn x => storeWord nn (s.index x) 4 s
  | .ldSpHl => .next ((s.setSp s.hl).advance 1)
  | .ldSpXy x => .next ((s.setSp (s.index x)).advance 2)
  | .push q => pushWord (s.stackPair q) 1 s
  | .pushXy x => pushWord (s.index x) 2 s
  | .pop q => popPair q s
  | .popXy x => popIndex x s
  | .exDeHl => .next (s.swapDeHl.advance 1)
  | .exAf => .next (s.swapAf.advance 1)
  | .exx => .next (s.swapBanks.advance 1)
  | .exSpHl => exchangeHl s
  | .exSpXy x => exchangeIndex x s
  | .ldBlock dir rep => transfer dir rep s
  | .cpBlock dir rep => search dir rep s
  | .aluR op r => alu op (s.reg8 r) 1 s
  | .aluN op n => alu op n 2 s
  | .aluHl op => aluMem op s.hl 1 s
  | .aluIdx op x d => aluMem op (s.ea x d) 3 s
  | .incR r => updateReg inc8 r 1 s
  | .incHl => updateByte inc8 s.hl 1 s
  | .incIdx x d => updateByte inc8 (s.ea x d) 3 s
  | .decR r => updateReg dec8 r 1 s
  | .decHl => updateByte dec8 s.hl 1 s
  | .decIdx x d => updateByte dec8 (s.ea x d) 3 s
  | .daa => putA (daa8 s.main.a s.main.f.h s.main.f.n s.main.f.c) 1 s
  | .cpl => putA (cpl8 s.main.a) 1 s
  | .neg => putA (sub8 0 s.main.a false) 2 s
  | .ccf => .next ((s.setF (ccfFlags s.main.f.c)).advance 1)
  | .scf => .next ((s.setF scfFlags).advance 1)
  | .nop => .next (s.advance 1)
  | .halt => .next ({ s with halted := true }.advance 1)
  | .di => .next ({ s with iff1 := false, iff2 := false }.advance 1)
  | .ei => .next ({ s with iff1 := true, iff2 := true, eiShadow := true }.advance 1)
  | .im m => .next ({ s with im := m }.advance 2)
  | .addHl p => putHl (add16 s.hl (s.pair p)) 1 s
  | .adcHl p => putHl (adc16 s.hl (s.pair p) s.main.f.c) 2 s
  | .sbcHl p => putHl (sbc16 s.hl (s.pair p) s.main.f.c) 2 s
  | .addXy x p => putIndex x (add16 (s.index x) (s.indexPair x p)) s
  | .incSs p => .next ((s.setPair p (s.pair p + 1)).advance 1)
  | .incXy x => .next ((s.setIndex x (s.index x + 1)).advance 2)
  | .decSs p => .next ((s.setPair p (s.pair p - 1)).advance 1)
  | .decXy x => .next ((s.setIndex x (s.index x - 1)).advance 2)
  | .rotA op => rotateA op s
  | .shiftR op r => updateReg (fun v => op.compute v s.main.f.c) r 2 s
  | .shiftHl op => updateByte (fun v => op.compute v s.main.f.c) s.hl 2 s
  | .shiftIdx op x d => updateByte (fun v => op.compute v s.main.f.c) (s.ea x d) 4 s
  | .rld => rotateDigits rldDigits s
  | .rrd => rotateDigits rrdDigits s
  | .bitR b r => testBit b (s.reg8 r) 2 s
  | .bitHl b => testMem b s.hl 2 s
  | .bitIdx b x d => testMem b (s.ea x d) 4 s
  | .setR b r => .next ((s.setReg8 r (setBit b (s.reg8 r))).advance 2)
  | .setHl b => changeByte (setBit b) s.hl 2 s
  | .setIdx b x d => changeByte (setBit b) (s.ea x d) 4 s
  | .resR b r => .next ((s.setReg8 r (resBit b (s.reg8 r))).advance 2)
  | .resHl b => changeByte (resBit b) s.hl 2 s
  | .resIdx b x d => changeByte (resBit b) (s.ea x d) 4 s
  | .jp nn => .next (s.jump nn)
  | .jpCc cc nn => .next (if s.cond cc then s.jump nn else s.advance 3)
  | .jr e => .next (s.jump (s.relative e))
  | .jrCc cc e => .next (if s.cond cc then s.jump (s.relative e) else s.advance 2)
  | .jpHl => .next (s.jump s.hl)
  | .jpXy x => .next (s.jump (s.index x))
  | .djnz e => countB e s
  | .call nn => callTo nn 3 s
  | .callCc cc nn => if s.cond cc then callTo nn 3 s else .next (s.advance 3)
  | .ret => returnTo s
  | .retCc cc => if s.cond cc then returnTo s else .next (s.advance 1)
  | .reti => returnFromInterrupt s
  | .retn => returnFromInterrupt s
  | .rst p => callTo (BitVec.ofNat 16 (8 * p.val)) 1 s
  | .inAN n => inputA n s
  | .inRC r => inputReg r s
  | .inBlock dir rep => blockIn dir rep s
  | .outNA n => outputByte n s.main.a s
  | .outCR r => outputByte s.main.c (s.reg8 r) s
  | .outBlock dir rep => blockOut dir rep s

/-- Every meaning is its family's. -/
theorem exec_family (i : Instr) (s : State) : exec i s = i.family.exec s := by
  cases i <;> rfl

end Sys2Proof
end

