-- ==== Sys2Proof/Laws/Memory.lean ====
section
/-! SUPPORT. The storage: a read after a write, and that every memory operation keeps the canonical form. -/

namespace Sys2Proof.Machine

/-- A canonical list from `lo` on is one from any lower bound on. -/
theorem Memory.canonical_mono {lo lo' hi : Nat} (h : lo' ≤ lo) (m : Memory) (hm : Memory.canonical lo hi m) :
    Memory.canonical lo' hi m := by
  cases m with
  | nil => rfl
  | cons c rest =>
    simp only [Memory.canonical, Bool.and_eq_true, decide_eq_true_eq] at hm ⊢
    exact ⟨⟨⟨by omega, hm.1.1.2⟩, hm.1.2⟩, hm.2⟩

/-- A byte below the lower bound of a canonical list is unlisted. -/
theorem Memory.read_below {lo hi : Nat} (m : Memory) (a : Nat) (hm : Memory.canonical lo hi m) (h : a < lo) :
    m.read a = Memory.initByte := by
  induction m generalizing lo with
  | nil => rfl
  | cons c rest ih =>
    simp only [Memory.canonical, Bool.and_eq_true, decide_eq_true_eq] at hm
    simp only [Memory.read]
    rw [if_neg (by omega)]
    exact ih hm.2 (by omega)

/-- A write keeps the canonical form. -/
theorem Memory.canonical_write {lo hi : Nat} (m : Memory) (a : Nat) (v : Byte) (hm : Memory.canonical lo hi m)
    (h1 : lo ≤ a) (h2 : a < hi) : Memory.canonical lo hi (m.write a v) := by
  induction m generalizing lo with
  | nil =>
    simp only [Memory.write]
    split
    · rfl
    · rename_i hv
      simp [Memory.canonical, h1, h2, hv]
  | cons c rest ih =>
    obtain ⟨k, w⟩ := c
    have hm0 := hm
    simp only [Memory.canonical, Bool.and_eq_true, decide_eq_true_eq] at hm
    simp only [Memory.write]
    split
    · split
      · exact hm0
      · rename_i hv
        simp only [Memory.canonical, Bool.and_eq_true, decide_eq_true_eq]
        exact ⟨⟨⟨h1, h2⟩, hv⟩, ⟨⟨by omega, hm.1.1.2⟩, hm.1.2⟩, hm.2⟩
    · split
      · split
        · exact Memory.canonical_mono (by omega) rest hm.2
        · rename_i ha hv
          subst ha
          simp only [Memory.canonical, Bool.and_eq_true, decide_eq_true_eq]
          exact ⟨⟨⟨h1, h2⟩, hv⟩, hm.2⟩
      · simp only [Memory.canonical, Bool.and_eq_true, decide_eq_true_eq]
        exact ⟨⟨⟨hm.1.1.1, hm.1.1.2⟩, hm.1.2⟩, ih hm.2 (by omega)⟩

/-- A read after a write to the same address answers the value written, in canonical storage. -/
theorem Memory.read_write_self {lo hi : Nat} (m : Memory) (a : Nat) (v : Byte) (hm : Memory.canonical lo hi m) :
    (m.write a v).read a = v := by
  induction m generalizing lo with
  | nil =>
    simp only [Memory.write]
    split
    · rename_i hv; simp [Memory.read, hv]
    · simp [Memory.read]
  | cons c rest ih =>
    obtain ⟨k, w⟩ := c
    simp only [Memory.canonical, Bool.and_eq_true, decide_eq_true_eq] at hm
    simp only [Memory.write]
    split
    · rename_i hlt
      split
      · rename_i hv
        simp only [Memory.read]
        rw [if_neg (by omega), Memory.read_below rest a hm.2 (by omega), hv]
      · simp [Memory.read]
    · split
      · rename_i ha
        split
        · rename_i hv
          rw [Memory.read_below rest a hm.2 (by omega), hv]
        · simp [Memory.read]
      · rename_i ha
        simp only [Memory.read]
        rw [if_neg (by omega)]
        exact ih hm.2

/-- A write leaves every other address alone; no canonical form is needed. -/
theorem Memory.read_write_other (m : Memory) (a b : Nat) (v : Byte) (h : b ≠ a) : (m.write a v).read b = m.read b := by
  induction m with
  | nil =>
    simp only [Memory.write]
    split
    · rfl
    · simp only [Memory.read]; rw [if_neg (Ne.symm h)]
  | cons c rest ih =>
    obtain ⟨k, w⟩ := c
    simp only [Memory.write]
    split
    · split
      · rfl
      · simp only [Memory.read]; rw [if_neg (Ne.symm h)]
    · split
      · rename_i hk
        split
        · simp only [Memory.read]; rw [if_neg (by omega)]
        · simp only [Memory.read]; rw [if_neg (Ne.symm h), if_neg (by omega)]
      · simp only [Memory.read, ih]

end Sys2Proof.Machine
end

