-- ==== Sys2Proof/Laws/State.lean ====
section
/-! SUPPORT. One lemma for each field of State under each update: the fields an update leaves alone, the field it writes. -/

namespace Sys2Proof.Machine

variable (s : State)

@[simp] theorem State.setReg8_shadow (r : Reg8) (v : Byte) : (s.setReg8 r v).shadow = s.shadow := rfl
@[simp] theorem State.setReg8_ix (r : Reg8) (v : Byte) : (s.setReg8 r v).ix = s.ix := rfl
@[simp] theorem State.setReg8_iy (r : Reg8) (v : Byte) : (s.setReg8 r v).iy = s.iy := rfl
@[simp] theorem State.setReg8_sp (r : Reg8) (v : Byte) : (s.setReg8 r v).sp = s.sp := rfl
@[simp] theorem State.setReg8_written (r : Reg8) (v : Byte) : (s.setReg8 r v).written = s.written := rfl
@[simp] theorem State.setReg8_pc (r : Reg8) (v : Byte) : (s.setReg8 r v).pc = s.pc := rfl
@[simp] theorem State.setReg8_i (r : Reg8) (v : Byte) : (s.setReg8 r v).i = s.i := rfl
@[simp] theorem State.setReg8_r (r : Reg8) (v : Byte) : (s.setReg8 r v).r = s.r := rfl
@[simp] theorem State.setReg8_iff1 (r : Reg8) (v : Byte) : (s.setReg8 r v).iff1 = s.iff1 := rfl
@[simp] theorem State.setReg8_iff2 (r : Reg8) (v : Byte) : (s.setReg8 r v).iff2 = s.iff2 := rfl
@[simp] theorem State.setReg8_im (r : Reg8) (v : Byte) : (s.setReg8 r v).im = s.im := rfl
@[simp] theorem State.setReg8_halted (r : Reg8) (v : Byte) : (s.setReg8 r v).halted = s.halted := rfl
@[simp] theorem State.setReg8_eiShadow (r : Reg8) (v : Byte) : (s.setReg8 r v).eiShadow = s.eiShadow := rfl
@[simp] theorem State.setReg8_boundaryUsed (r : Reg8) (v : Byte) : (s.setReg8 r v).boundaryUsed = s.boundaryUsed := rfl
@[simp] theorem State.setReg8_fault (r : Reg8) (v : Byte) : (s.setReg8 r v).fault = s.fault := rfl
@[simp] theorem State.setReg8_lines (r : Reg8) (v : Byte) : (s.setReg8 r v).lines = s.lines := rfl
@[simp] theorem State.setReg8_bus (r : Reg8) (v : Byte) : (s.setReg8 r v).bus = s.bus := rfl
@[simp] theorem State.setReg8_draws (r : Reg8) (v : Byte) : (s.setReg8 r v).draws = s.draws := rfl

@[simp] theorem State.setFByte_shadow (v : Byte) : (s.setFByte v).shadow = s.shadow := rfl
@[simp] theorem State.setFByte_ix (v : Byte) : (s.setFByte v).ix = s.ix := rfl
@[simp] theorem State.setFByte_iy (v : Byte) : (s.setFByte v).iy = s.iy := rfl
@[simp] theorem State.setFByte_sp (v : Byte) : (s.setFByte v).sp = s.sp := rfl
@[simp] theorem State.setFByte_written (v : Byte) : (s.setFByte v).written = s.written := rfl
@[simp] theorem State.setFByte_pc (v : Byte) : (s.setFByte v).pc = s.pc := rfl
@[simp] theorem State.setFByte_i (v : Byte) : (s.setFByte v).i = s.i := rfl
@[simp] theorem State.setFByte_r (v : Byte) : (s.setFByte v).r = s.r := rfl
@[simp] theorem State.setFByte_iff1 (v : Byte) : (s.setFByte v).iff1 = s.iff1 := rfl
@[simp] theorem State.setFByte_iff2 (v : Byte) : (s.setFByte v).iff2 = s.iff2 := rfl
@[simp] theorem State.setFByte_im (v : Byte) : (s.setFByte v).im = s.im := rfl
@[simp] theorem State.setFByte_halted (v : Byte) : (s.setFByte v).halted = s.halted := rfl
@[simp] theorem State.setFByte_eiShadow (v : Byte) : (s.setFByte v).eiShadow = s.eiShadow := rfl
@[simp] theorem State.setFByte_boundaryUsed (v : Byte) : (s.setFByte v).boundaryUsed = s.boundaryUsed := rfl
@[simp] theorem State.setFByte_fault (v : Byte) : (s.setFByte v).fault = s.fault := rfl
@[simp] theorem State.setFByte_lines (v : Byte) : (s.setFByte v).lines = s.lines := rfl
@[simp] theorem State.setFByte_bus (v : Byte) : (s.setFByte v).bus = s.bus := rfl
@[simp] theorem State.setFByte_draws (v : Byte) : (s.setFByte v).draws = s.draws := rfl

@[simp] theorem State.setF_shadow (u : FlagSet) : (s.setF u).shadow = s.shadow := rfl
@[simp] theorem State.setF_ix (u : FlagSet) : (s.setF u).ix = s.ix := rfl
@[simp] theorem State.setF_iy (u : FlagSet) : (s.setF u).iy = s.iy := rfl
@[simp] theorem State.setF_sp (u : FlagSet) : (s.setF u).sp = s.sp := rfl
@[simp] theorem State.setF_written (u : FlagSet) : (s.setF u).written = s.written := rfl
@[simp] theorem State.setF_pc (u : FlagSet) : (s.setF u).pc = s.pc := rfl
@[simp] theorem State.setF_i (u : FlagSet) : (s.setF u).i = s.i := rfl
@[simp] theorem State.setF_r (u : FlagSet) : (s.setF u).r = s.r := rfl
@[simp] theorem State.setF_iff1 (u : FlagSet) : (s.setF u).iff1 = s.iff1 := rfl
@[simp] theorem State.setF_iff2 (u : FlagSet) : (s.setF u).iff2 = s.iff2 := rfl
@[simp] theorem State.setF_im (u : FlagSet) : (s.setF u).im = s.im := rfl
@[simp] theorem State.setF_halted (u : FlagSet) : (s.setF u).halted = s.halted := rfl
@[simp] theorem State.setF_eiShadow (u : FlagSet) : (s.setF u).eiShadow = s.eiShadow := rfl
@[simp] theorem State.setF_boundaryUsed (u : FlagSet) : (s.setF u).boundaryUsed = s.boundaryUsed := rfl
@[simp] theorem State.setF_fault (u : FlagSet) : (s.setF u).fault = s.fault := rfl
@[simp] theorem State.setF_lines (u : FlagSet) : (s.setF u).lines = s.lines := rfl
@[simp] theorem State.setF_bus (u : FlagSet) : (s.setF u).bus = s.bus := rfl

@[simp] theorem State.setSp_main (v : Word) : (s.setSp v).main = s.main := rfl
@[simp] theorem State.setSp_shadow (v : Word) : (s.setSp v).shadow = s.shadow := rfl
@[simp] theorem State.setSp_ix (v : Word) : (s.setSp v).ix = s.ix := rfl
@[simp] theorem State.setSp_iy (v : Word) : (s.setSp v).iy = s.iy := rfl
@[simp] theorem State.setSp_pc (v : Word) : (s.setSp v).pc = s.pc := rfl
@[simp] theorem State.setSp_i (v : Word) : (s.setSp v).i = s.i := rfl
@[simp] theorem State.setSp_r (v : Word) : (s.setSp v).r = s.r := rfl
@[simp] theorem State.setSp_iff1 (v : Word) : (s.setSp v).iff1 = s.iff1 := rfl
@[simp] theorem State.setSp_iff2 (v : Word) : (s.setSp v).iff2 = s.iff2 := rfl
@[simp] theorem State.setSp_im (v : Word) : (s.setSp v).im = s.im := rfl
@[simp] theorem State.setSp_halted (v : Word) : (s.setSp v).halted = s.halted := rfl
@[simp] theorem State.setSp_eiShadow (v : Word) : (s.setSp v).eiShadow = s.eiShadow := rfl
@[simp] theorem State.setSp_boundaryUsed (v : Word) : (s.setSp v).boundaryUsed = s.boundaryUsed := rfl
@[simp] theorem State.setSp_fault (v : Word) : (s.setSp v).fault = s.fault := rfl
@[simp] theorem State.setSp_lines (v : Word) : (s.setSp v).lines = s.lines := rfl
@[simp] theorem State.setSp_bus (v : Word) : (s.setSp v).bus = s.bus := rfl
@[simp] theorem State.setSp_draws (v : Word) : (s.setSp v).draws = s.draws := rfl

@[simp] theorem State.setIndex_main (x : Index) (v : Word) : (s.setIndex x v).main = s.main := by cases x <;> rfl
@[simp] theorem State.setIndex_shadow (x : Index) (v : Word) : (s.setIndex x v).shadow = s.shadow := by cases x <;> rfl
@[simp] theorem State.setIndex_sp (x : Index) (v : Word) : (s.setIndex x v).sp = s.sp := by cases x <;> rfl
@[simp] theorem State.setIndex_pc (x : Index) (v : Word) : (s.setIndex x v).pc = s.pc := by cases x <;> rfl
@[simp] theorem State.setIndex_i (x : Index) (v : Word) : (s.setIndex x v).i = s.i := by cases x <;> rfl
@[simp] theorem State.setIndex_r (x : Index) (v : Word) : (s.setIndex x v).r = s.r := by cases x <;> rfl
@[simp] theorem State.setIndex_iff1 (x : Index) (v : Word) : (s.setIndex x v).iff1 = s.iff1 := by cases x <;> rfl
@[simp] theorem State.setIndex_iff2 (x : Index) (v : Word) : (s.setIndex x v).iff2 = s.iff2 := by cases x <;> rfl
@[simp] theorem State.setIndex_im (x : Index) (v : Word) : (s.setIndex x v).im = s.im := by cases x <;> rfl
@[simp] theorem State.setIndex_halted (x : Index) (v : Word) : (s.setIndex x v).halted = s.halted := by cases x <;> rfl
@[simp] theorem State.setIndex_eiShadow (x : Index) (v : Word) : (s.setIndex x v).eiShadow = s.eiShadow := by cases x <;> rfl
@[simp] theorem State.setIndex_boundaryUsed (x : Index) (v : Word) : (s.setIndex x v).boundaryUsed = s.boundaryUsed := by cases x <;> rfl
@[simp] theorem State.setIndex_fault (x : Index) (v : Word) : (s.setIndex x v).fault = s.fault := by cases x <;> rfl
@[simp] theorem State.setIndex_lines (x : Index) (v : Word) : (s.setIndex x v).lines = s.lines := by cases x <;> rfl
@[simp] theorem State.setIndex_bus (x : Index) (v : Word) : (s.setIndex x v).bus = s.bus := by cases x <;> rfl
@[simp] theorem State.setIndex_draws (x : Index) (v : Word) : (s.setIndex x v).draws = s.draws := by cases x <;> rfl

@[simp] theorem State.setBc_shadow (v : Word) : (s.setBc v).shadow = s.shadow := rfl
@[simp] theorem State.setBc_ix (v : Word) : (s.setBc v).ix = s.ix := rfl
@[simp] theorem State.setBc_iy (v : Word) : (s.setBc v).iy = s.iy := rfl
@[simp] theorem State.setBc_sp (v : Word) : (s.setBc v).sp = s.sp := rfl
@[simp] theorem State.setBc_written (v : Word) : (s.setBc v).written = s.written := rfl
@[simp] theorem State.setBc_pc (v : Word) : (s.setBc v).pc = s.pc := rfl
@[simp] theorem State.setBc_i (v : Word) : (s.setBc v).i = s.i := rfl
@[simp] theorem State.setBc_r (v : Word) : (s.setBc v).r = s.r := rfl
@[simp] theorem State.setBc_iff1 (v : Word) : (s.setBc v).iff1 = s.iff1 := rfl
@[simp] theorem State.setBc_iff2 (v : Word) : (s.setBc v).iff2 = s.iff2 := rfl
@[simp] theorem State.setBc_im (v : Word) : (s.setBc v).im = s.im := rfl
@[simp] theorem State.setBc_halted (v : Word) : (s.setBc v).halted = s.halted := rfl
@[simp] theorem State.setBc_eiShadow (v : Word) : (s.setBc v).eiShadow = s.eiShadow := rfl
@[simp] theorem State.setBc_boundaryUsed (v : Word) : (s.setBc v).boundaryUsed = s.boundaryUsed := rfl
@[simp] theorem State.setBc_fault (v : Word) : (s.setBc v).fault = s.fault := rfl
@[simp] theorem State.setBc_lines (v : Word) : (s.setBc v).lines = s.lines := rfl
@[simp] theorem State.setBc_bus (v : Word) : (s.setBc v).bus = s.bus := rfl
@[simp] theorem State.setBc_draws (v : Word) : (s.setBc v).draws = s.draws := rfl

@[simp] theorem State.setDe_shadow (v : Word) : (s.setDe v).shadow = s.shadow := rfl
@[simp] theorem State.setDe_ix (v : Word) : (s.setDe v).ix = s.ix := rfl
@[simp] theorem State.setDe_iy (v : Word) : (s.setDe v).iy = s.iy := rfl
@[simp] theorem State.setDe_sp (v : Word) : (s.setDe v).sp = s.sp := rfl
@[simp] theorem State.setDe_written (v : Word) : (s.setDe v).written = s.written := rfl
@[simp] theorem State.setDe_pc (v : Word) : (s.setDe v).pc = s.pc := rfl
@[simp] theorem State.setDe_i (v : Word) : (s.setDe v).i = s.i := rfl
@[simp] theorem State.setDe_r (v : Word) : (s.setDe v).r = s.r := rfl
@[simp] theorem State.setDe_iff1 (v : Word) : (s.setDe v).iff1 = s.iff1 := rfl
@[simp] theorem State.setDe_iff2 (v : Word) : (s.setDe v).iff2 = s.iff2 := rfl
@[simp] theorem State.setDe_im (v : Word) : (s.setDe v).im = s.im := rfl
@[simp] theorem State.setDe_halted (v : Word) : (s.setDe v).halted = s.halted := rfl
@[simp] theorem State.setDe_eiShadow (v : Word) : (s.setDe v).eiShadow = s.eiShadow := rfl
@[simp] theorem State.setDe_boundaryUsed (v : Word) : (s.setDe v).boundaryUsed = s.boundaryUsed := rfl
@[simp] theorem State.setDe_fault (v : Word) : (s.setDe v).fault = s.fault := rfl
@[simp] theorem State.setDe_lines (v : Word) : (s.setDe v).lines = s.lines := rfl
@[simp] theorem State.setDe_bus (v : Word) : (s.setDe v).bus = s.bus := rfl
@[simp] theorem State.setDe_draws (v : Word) : (s.setDe v).draws = s.draws := rfl

@[simp] theorem State.setHl_shadow (v : Word) : (s.setHl v).shadow = s.shadow := rfl
@[simp] theorem State.setHl_ix (v : Word) : (s.setHl v).ix = s.ix := rfl
@[simp] theorem State.setHl_iy (v : Word) : (s.setHl v).iy = s.iy := rfl
@[simp] theorem State.setHl_sp (v : Word) : (s.setHl v).sp = s.sp := rfl
@[simp] theorem State.setHl_written (v : Word) : (s.setHl v).written = s.written := rfl
@[simp] theorem State.setHl_pc (v : Word) : (s.setHl v).pc = s.pc := rfl
@[simp] theorem State.setHl_i (v : Word) : (s.setHl v).i = s.i := rfl
@[simp] theorem State.setHl_r (v : Word) : (s.setHl v).r = s.r := rfl
@[simp] theorem State.setHl_iff1 (v : Word) : (s.setHl v).iff1 = s.iff1 := rfl
@[simp] theorem State.setHl_iff2 (v : Word) : (s.setHl v).iff2 = s.iff2 := rfl
@[simp] theorem State.setHl_im (v : Word) : (s.setHl v).im = s.im := rfl
@[simp] theorem State.setHl_halted (v : Word) : (s.setHl v).halted = s.halted := rfl
@[simp] theorem State.setHl_eiShadow (v : Word) : (s.setHl v).eiShadow = s.eiShadow := rfl
@[simp] theorem State.setHl_boundaryUsed (v : Word) : (s.setHl v).boundaryUsed = s.boundaryUsed := rfl
@[simp] theorem State.setHl_fault (v : Word) : (s.setHl v).fault = s.fault := rfl
@[simp] theorem State.setHl_lines (v : Word) : (s.setHl v).lines = s.lines := rfl
@[simp] theorem State.setHl_bus (v : Word) : (s.setHl v).bus = s.bus := rfl
@[simp] theorem State.setHl_draws (v : Word) : (s.setHl v).draws = s.draws := rfl

@[simp] theorem State.setAf_shadow (v : Word) : (s.setAf v).shadow = s.shadow := rfl
@[simp] theorem State.setAf_ix (v : Word) : (s.setAf v).ix = s.ix := rfl
@[simp] theorem State.setAf_iy (v : Word) : (s.setAf v).iy = s.iy := rfl
@[simp] theorem State.setAf_sp (v : Word) : (s.setAf v).sp = s.sp := rfl
@[simp] theorem State.setAf_written (v : Word) : (s.setAf v).written = s.written := rfl
@[simp] theorem State.setAf_pc (v : Word) : (s.setAf v).pc = s.pc := rfl
@[simp] theorem State.setAf_i (v : Word) : (s.setAf v).i = s.i := rfl
@[simp] theorem State.setAf_r (v : Word) : (s.setAf v).r = s.r := rfl
@[simp] theorem State.setAf_iff1 (v : Word) : (s.setAf v).iff1 = s.iff1 := rfl
@[simp] theorem State.setAf_iff2 (v : Word) : (s.setAf v).iff2 = s.iff2 := rfl
@[simp] theorem State.setAf_im (v : Word) : (s.setAf v).im = s.im := rfl
@[simp] theorem State.setAf_halted (v : Word) : (s.setAf v).halted = s.halted := rfl
@[simp] theorem State.setAf_eiShadow (v : Word) : (s.setAf v).eiShadow = s.eiShadow := rfl
@[simp] theorem State.setAf_boundaryUsed (v : Word) : (s.setAf v).boundaryUsed = s.boundaryUsed := rfl
@[simp] theorem State.setAf_fault (v : Word) : (s.setAf v).fault = s.fault := rfl
@[simp] theorem State.setAf_lines (v : Word) : (s.setAf v).lines = s.lines := rfl
@[simp] theorem State.setAf_bus (v : Word) : (s.setAf v).bus = s.bus := rfl
@[simp] theorem State.setAf_draws (v : Word) : (s.setAf v).draws = s.draws := rfl

@[simp] theorem State.setPair_shadow (p : Pair) (v : Word) : (s.setPair p v).shadow = s.shadow := by cases p <;> rfl
@[simp] theorem State.setPair_ix (p : Pair) (v : Word) : (s.setPair p v).ix = s.ix := by cases p <;> rfl
@[simp] theorem State.setPair_iy (p : Pair) (v : Word) : (s.setPair p v).iy = s.iy := by cases p <;> rfl
@[simp] theorem State.setPair_pc (p : Pair) (v : Word) : (s.setPair p v).pc = s.pc := by cases p <;> rfl
@[simp] theorem State.setPair_i (p : Pair) (v : Word) : (s.setPair p v).i = s.i := by cases p <;> rfl
@[simp] theorem State.setPair_r (p : Pair) (v : Word) : (s.setPair p v).r = s.r := by cases p <;> rfl
@[simp] theorem State.setPair_iff1 (p : Pair) (v : Word) : (s.setPair p v).iff1 = s.iff1 := by cases p <;> rfl
@[simp] theorem State.setPair_iff2 (p : Pair) (v : Word) : (s.setPair p v).iff2 = s.iff2 := by cases p <;> rfl
@[simp] theorem State.setPair_im (p : Pair) (v : Word) : (s.setPair p v).im = s.im := by cases p <;> rfl
@[simp] theorem State.setPair_halted (p : Pair) (v : Word) : (s.setPair p v).halted = s.halted := by cases p <;> rfl
@[simp] theorem State.setPair_eiShadow (p : Pair) (v : Word) : (s.setPair p v).eiShadow = s.eiShadow := by cases p <;> rfl
@[simp] theorem State.setPair_boundaryUsed (p : Pair) (v : Word) : (s.setPair p v).boundaryUsed = s.boundaryUsed := by cases p <;> rfl
@[simp] theorem State.setPair_fault (p : Pair) (v : Word) : (s.setPair p v).fault = s.fault := by cases p <;> rfl
@[simp] theorem State.setPair_lines (p : Pair) (v : Word) : (s.setPair p v).lines = s.lines := by cases p <;> rfl
@[simp] theorem State.setPair_bus (p : Pair) (v : Word) : (s.setPair p v).bus = s.bus := by cases p <;> rfl
@[simp] theorem State.setPair_draws (p : Pair) (v : Word) : (s.setPair p v).draws = s.draws := by cases p <;> rfl

@[simp] theorem State.setStackPair_shadow (q : StackPair) (v : Word) : (s.setStackPair q v).shadow = s.shadow := by cases q <;> rfl
@[simp] theorem State.setStackPair_ix (q : StackPair) (v : Word) : (s.setStackPair q v).ix = s.ix := by cases q <;> rfl
@[simp] theorem State.setStackPair_iy (q : StackPair) (v : Word) : (s.setStackPair q v).iy = s.iy := by cases q <;> rfl
@[simp] theorem State.setStackPair_sp (q : StackPair) (v : Word) : (s.setStackPair q v).sp = s.sp := by cases q <;> rfl
@[simp] theorem State.setStackPair_written (q : StackPair) (v : Word) : (s.setStackPair q v).written = s.written := by cases q <;> rfl
@[simp] theorem State.setStackPair_pc (q : StackPair) (v : Word) : (s.setStackPair q v).pc = s.pc := by cases q <;> rfl
@[simp] theorem State.setStackPair_i (q : StackPair) (v : Word) : (s.setStackPair q v).i = s.i := by cases q <;> rfl
@[simp] theorem State.setStackPair_r (q : StackPair) (v : Word) : (s.setStackPair q v).r = s.r := by cases q <;> rfl
@[simp] theorem State.setStackPair_iff1 (q : StackPair) (v : Word) : (s.setStackPair q v).iff1 = s.iff1 := by cases q <;> rfl
@[simp] theorem State.setStackPair_iff2 (q : StackPair) (v : Word) : (s.setStackPair q v).iff2 = s.iff2 := by cases q <;> rfl
@[simp] theorem State.setStackPair_im (q : StackPair) (v : Word) : (s.setStackPair q v).im = s.im := by cases q <;> rfl
@[simp] theorem State.setStackPair_halted (q : StackPair) (v : Word) : (s.setStackPair q v).halted = s.halted := by cases q <;> rfl
@[simp] theorem State.setStackPair_eiShadow (q : StackPair) (v : Word) : (s.setStackPair q v).eiShadow = s.eiShadow := by cases q <;> rfl
@[simp] theorem State.setStackPair_boundaryUsed (q : StackPair) (v : Word) : (s.setStackPair q v).boundaryUsed = s.boundaryUsed := by cases q <;> rfl
@[simp] theorem State.setStackPair_fault (q : StackPair) (v : Word) : (s.setStackPair q v).fault = s.fault := by cases q <;> rfl
@[simp] theorem State.setStackPair_lines (q : StackPair) (v : Word) : (s.setStackPair q v).lines = s.lines := by cases q <;> rfl
@[simp] theorem State.setStackPair_bus (q : StackPair) (v : Word) : (s.setStackPair q v).bus = s.bus := by cases q <;> rfl
@[simp] theorem State.setStackPair_draws (q : StackPair) (v : Word) : (s.setStackPair q v).draws = s.draws := by cases q <;> rfl

@[simp] theorem State.advance_main (n : Nat) : (s.advance n).main = s.main := rfl
@[simp] theorem State.advance_shadow (n : Nat) : (s.advance n).shadow = s.shadow := rfl
@[simp] theorem State.advance_ix (n : Nat) : (s.advance n).ix = s.ix := rfl
@[simp] theorem State.advance_iy (n : Nat) : (s.advance n).iy = s.iy := rfl
@[simp] theorem State.advance_sp (n : Nat) : (s.advance n).sp = s.sp := rfl
@[simp] theorem State.advance_written (n : Nat) : (s.advance n).written = s.written := rfl
@[simp] theorem State.advance_i (n : Nat) : (s.advance n).i = s.i := rfl
@[simp] theorem State.advance_r (n : Nat) : (s.advance n).r = s.r := rfl
@[simp] theorem State.advance_iff1 (n : Nat) : (s.advance n).iff1 = s.iff1 := rfl
@[simp] theorem State.advance_iff2 (n : Nat) : (s.advance n).iff2 = s.iff2 := rfl
@[simp] theorem State.advance_im (n : Nat) : (s.advance n).im = s.im := rfl
@[simp] theorem State.advance_halted (n : Nat) : (s.advance n).halted = s.halted := rfl
@[simp] theorem State.advance_eiShadow (n : Nat) : (s.advance n).eiShadow = s.eiShadow := rfl
@[simp] theorem State.advance_boundaryUsed (n : Nat) : (s.advance n).boundaryUsed = s.boundaryUsed := rfl
@[simp] theorem State.advance_fault (n : Nat) : (s.advance n).fault = s.fault := rfl
@[simp] theorem State.advance_lines (n : Nat) : (s.advance n).lines = s.lines := rfl
@[simp] theorem State.advance_bus (n : Nat) : (s.advance n).bus = s.bus := rfl
@[simp] theorem State.advance_draws (n : Nat) : (s.advance n).draws = s.draws := rfl

@[simp] theorem State.jump_main (a : Word) : (s.jump a).main = s.main := rfl
@[simp] theorem State.jump_shadow (a : Word) : (s.jump a).shadow = s.shadow := rfl
@[simp] theorem State.jump_ix (a : Word) : (s.jump a).ix = s.ix := rfl
@[simp] theorem State.jump_iy (a : Word) : (s.jump a).iy = s.iy := rfl
@[simp] theorem State.jump_sp (a : Word) : (s.jump a).sp = s.sp := rfl
@[simp] theorem State.jump_written (a : Word) : (s.jump a).written = s.written := rfl
@[simp] theorem State.jump_i (a : Word) : (s.jump a).i = s.i := rfl
@[simp] theorem State.jump_r (a : Word) : (s.jump a).r = s.r := rfl
@[simp] theorem State.jump_iff1 (a : Word) : (s.jump a).iff1 = s.iff1 := rfl
@[simp] theorem State.jump_iff2 (a : Word) : (s.jump a).iff2 = s.iff2 := rfl
@[simp] theorem State.jump_im (a : Word) : (s.jump a).im = s.im := rfl
@[simp] theorem State.jump_halted (a : Word) : (s.jump a).halted = s.halted := rfl
@[simp] theorem State.jump_eiShadow (a : Word) : (s.jump a).eiShadow = s.eiShadow := rfl
@[simp] theorem State.jump_boundaryUsed (a : Word) : (s.jump a).boundaryUsed = s.boundaryUsed := rfl
@[simp] theorem State.jump_fault (a : Word) : (s.jump a).fault = s.fault := rfl
@[simp] theorem State.jump_lines (a : Word) : (s.jump a).lines = s.lines := rfl
@[simp] theorem State.jump_bus (a : Word) : (s.jump a).bus = s.bus := rfl
@[simp] theorem State.jump_draws (a : Word) : (s.jump a).draws = s.draws := rfl

@[simp] theorem State.tick_main : s.tick.main = s.main := rfl
@[simp] theorem State.tick_shadow : s.tick.shadow = s.shadow := rfl
@[simp] theorem State.tick_ix : s.tick.ix = s.ix := rfl
@[simp] theorem State.tick_iy : s.tick.iy = s.iy := rfl
@[simp] theorem State.tick_sp : s.tick.sp = s.sp := rfl
@[simp] theorem State.tick_written : s.tick.written = s.written := rfl
@[simp] theorem State.tick_pc : s.tick.pc = s.pc := rfl
@[simp] theorem State.tick_i : s.tick.i = s.i := rfl
@[simp] theorem State.tick_iff1 : s.tick.iff1 = s.iff1 := rfl
@[simp] theorem State.tick_iff2 : s.tick.iff2 = s.iff2 := rfl
@[simp] theorem State.tick_im : s.tick.im = s.im := rfl
@[simp] theorem State.tick_halted : s.tick.halted = s.halted := rfl
@[simp] theorem State.tick_eiShadow : s.tick.eiShadow = s.eiShadow := rfl
@[simp] theorem State.tick_boundaryUsed : s.tick.boundaryUsed = s.boundaryUsed := rfl
@[simp] theorem State.tick_fault : s.tick.fault = s.fault := rfl
@[simp] theorem State.tick_lines : s.tick.lines = s.lines := rfl
@[simp] theorem State.tick_bus : s.tick.bus = s.bus := rfl
@[simp] theorem State.tick_draws : s.tick.draws = s.draws := rfl

@[simp] theorem State.swapDeHl_shadow : s.swapDeHl.shadow = s.shadow := rfl
@[simp] theorem State.swapDeHl_ix : s.swapDeHl.ix = s.ix := rfl
@[simp] theorem State.swapDeHl_iy : s.swapDeHl.iy = s.iy := rfl
@[simp] theorem State.swapDeHl_sp : s.swapDeHl.sp = s.sp := rfl
@[simp] theorem State.swapDeHl_written : s.swapDeHl.written = s.written := rfl
@[simp] theorem State.swapDeHl_pc : s.swapDeHl.pc = s.pc := rfl
@[simp] theorem State.swapDeHl_i : s.swapDeHl.i = s.i := rfl
@[simp] theorem State.swapDeHl_r : s.swapDeHl.r = s.r := rfl
@[simp] theorem State.swapDeHl_iff1 : s.swapDeHl.iff1 = s.iff1 := rfl
@[simp] theorem State.swapDeHl_iff2 : s.swapDeHl.iff2 = s.iff2 := rfl
@[simp] theorem State.swapDeHl_im : s.swapDeHl.im = s.im := rfl
@[simp] theorem State.swapDeHl_halted : s.swapDeHl.halted = s.halted := rfl
@[simp] theorem State.swapDeHl_eiShadow : s.swapDeHl.eiShadow = s.eiShadow := rfl
@[simp] theorem State.swapDeHl_boundaryUsed : s.swapDeHl.boundaryUsed = s.boundaryUsed := rfl
@[simp] theorem State.swapDeHl_fault : s.swapDeHl.fault = s.fault := rfl
@[simp] theorem State.swapDeHl_lines : s.swapDeHl.lines = s.lines := rfl
@[simp] theorem State.swapDeHl_bus : s.swapDeHl.bus = s.bus := rfl
@[simp] theorem State.swapDeHl_draws : s.swapDeHl.draws = s.draws := rfl

@[simp] theorem State.swapAf_ix : s.swapAf.ix = s.ix := rfl
@[simp] theorem State.swapAf_iy : s.swapAf.iy = s.iy := rfl
@[simp] theorem State.swapAf_sp : s.swapAf.sp = s.sp := rfl
@[simp] theorem State.swapAf_written : s.swapAf.written = s.written := rfl
@[simp] theorem State.swapAf_pc : s.swapAf.pc = s.pc := rfl
@[simp] theorem State.swapAf_i : s.swapAf.i = s.i := rfl
@[simp] theorem State.swapAf_r : s.swapAf.r = s.r := rfl
@[simp] theorem State.swapAf_iff1 : s.swapAf.iff1 = s.iff1 := rfl
@[simp] theorem State.swapAf_iff2 : s.swapAf.iff2 = s.iff2 := rfl
@[simp] theorem State.swapAf_im : s.swapAf.im = s.im := rfl
@[simp] theorem State.swapAf_halted : s.swapAf.halted = s.halted := rfl
@[simp] theorem State.swapAf_eiShadow : s.swapAf.eiShadow = s.eiShadow := rfl
@[simp] theorem State.swapAf_boundaryUsed : s.swapAf.boundaryUsed = s.boundaryUsed := rfl
@[simp] theorem State.swapAf_fault : s.swapAf.fault = s.fault := rfl
@[simp] theorem State.swapAf_lines : s.swapAf.lines = s.lines := rfl
@[simp] theorem State.swapAf_bus : s.swapAf.bus = s.bus := rfl
@[simp] theorem State.swapAf_draws : s.swapAf.draws = s.draws := rfl

@[simp] theorem State.swapBanks_ix : s.swapBanks.ix = s.ix := rfl
@[simp] theorem State.swapBanks_iy : s.swapBanks.iy = s.iy := rfl
@[simp] theorem State.swapBanks_sp : s.swapBanks.sp = s.sp := rfl
@[simp] theorem State.swapBanks_written : s.swapBanks.written = s.written := rfl
@[simp] theorem State.swapBanks_pc : s.swapBanks.pc = s.pc := rfl
@[simp] theorem State.swapBanks_i : s.swapBanks.i = s.i := rfl
@[simp] theorem State.swapBanks_r : s.swapBanks.r = s.r := rfl
@[simp] theorem State.swapBanks_iff1 : s.swapBanks.iff1 = s.iff1 := rfl
@[simp] theorem State.swapBanks_iff2 : s.swapBanks.iff2 = s.iff2 := rfl
@[simp] theorem State.swapBanks_im : s.swapBanks.im = s.im := rfl
@[simp] theorem State.swapBanks_halted : s.swapBanks.halted = s.halted := rfl
@[simp] theorem State.swapBanks_eiShadow : s.swapBanks.eiShadow = s.eiShadow := rfl
@[simp] theorem State.swapBanks_boundaryUsed : s.swapBanks.boundaryUsed = s.boundaryUsed := rfl
@[simp] theorem State.swapBanks_fault : s.swapBanks.fault = s.fault := rfl
@[simp] theorem State.swapBanks_lines : s.swapBanks.lines = s.lines := rfl
@[simp] theorem State.swapBanks_bus : s.swapBanks.bus = s.bus := rfl
@[simp] theorem State.swapBanks_draws : s.swapBanks.draws = s.draws := rfl

@[simp] theorem State.setBlockFlags_shadow : s.setBlockFlags.shadow = s.shadow := rfl
@[simp] theorem State.setBlockFlags_ix : s.setBlockFlags.ix = s.ix := rfl
@[simp] theorem State.setBlockFlags_iy : s.setBlockFlags.iy = s.iy := rfl
@[simp] theorem State.setBlockFlags_sp : s.setBlockFlags.sp = s.sp := rfl
@[simp] theorem State.setBlockFlags_written : s.setBlockFlags.written = s.written := rfl
@[simp] theorem State.setBlockFlags_pc : s.setBlockFlags.pc = s.pc := rfl
@[simp] theorem State.setBlockFlags_i : s.setBlockFlags.i = s.i := rfl
@[simp] theorem State.setBlockFlags_r : s.setBlockFlags.r = s.r := rfl
@[simp] theorem State.setBlockFlags_iff1 : s.setBlockFlags.iff1 = s.iff1 := rfl
@[simp] theorem State.setBlockFlags_iff2 : s.setBlockFlags.iff2 = s.iff2 := rfl
@[simp] theorem State.setBlockFlags_im : s.setBlockFlags.im = s.im := rfl
@[simp] theorem State.setBlockFlags_halted : s.setBlockFlags.halted = s.halted := rfl
@[simp] theorem State.setBlockFlags_eiShadow : s.setBlockFlags.eiShadow = s.eiShadow := rfl
@[simp] theorem State.setBlockFlags_boundaryUsed : s.setBlockFlags.boundaryUsed = s.boundaryUsed := rfl
@[simp] theorem State.setBlockFlags_fault : s.setBlockFlags.fault = s.fault := rfl
@[simp] theorem State.setBlockFlags_lines : s.setBlockFlags.lines = s.lines := rfl
@[simp] theorem State.setBlockFlags_bus : s.setBlockFlags.bus = s.bus := rfl

@[simp] theorem AluOp.writeBack_shadow (op : AluOp) (v : Byte) : (op.writeBack v s).shadow = s.shadow := by cases op <;> rfl
@[simp] theorem AluOp.writeBack_ix (op : AluOp) (v : Byte) : (op.writeBack v s).ix = s.ix := by cases op <;> rfl
@[simp] theorem AluOp.writeBack_iy (op : AluOp) (v : Byte) : (op.writeBack v s).iy = s.iy := by cases op <;> rfl
@[simp] theorem AluOp.writeBack_sp (op : AluOp) (v : Byte) : (op.writeBack v s).sp = s.sp := by cases op <;> rfl
@[simp] theorem AluOp.writeBack_written (op : AluOp) (v : Byte) : (op.writeBack v s).written = s.written := by cases op <;> rfl
@[simp] theorem AluOp.writeBack_pc (op : AluOp) (v : Byte) : (op.writeBack v s).pc = s.pc := by cases op <;> rfl
@[simp] theorem AluOp.writeBack_i (op : AluOp) (v : Byte) : (op.writeBack v s).i = s.i := by cases op <;> rfl
@[simp] theorem AluOp.writeBack_r (op : AluOp) (v : Byte) : (op.writeBack v s).r = s.r := by cases op <;> rfl
@[simp] theorem AluOp.writeBack_iff1 (op : AluOp) (v : Byte) : (op.writeBack v s).iff1 = s.iff1 := by cases op <;> rfl
@[simp] theorem AluOp.writeBack_iff2 (op : AluOp) (v : Byte) : (op.writeBack v s).iff2 = s.iff2 := by cases op <;> rfl
@[simp] theorem AluOp.writeBack_im (op : AluOp) (v : Byte) : (op.writeBack v s).im = s.im := by cases op <;> rfl
@[simp] theorem AluOp.writeBack_halted (op : AluOp) (v : Byte) : (op.writeBack v s).halted = s.halted := by cases op <;> rfl
@[simp] theorem AluOp.writeBack_eiShadow (op : AluOp) (v : Byte) : (op.writeBack v s).eiShadow = s.eiShadow := by cases op <;> rfl
@[simp] theorem AluOp.writeBack_boundaryUsed (op : AluOp) (v : Byte) : (op.writeBack v s).boundaryUsed = s.boundaryUsed := by cases op <;> rfl
@[simp] theorem AluOp.writeBack_fault (op : AluOp) (v : Byte) : (op.writeBack v s).fault = s.fault := by cases op <;> rfl
@[simp] theorem AluOp.writeBack_lines (op : AluOp) (v : Byte) : (op.writeBack v s).lines = s.lines := by cases op <;> rfl
@[simp] theorem AluOp.writeBack_bus (op : AluOp) (v : Byte) : (op.writeBack v s).bus = s.bus := by cases op <;> rfl
@[simp] theorem AluOp.writeBack_draws (op : AluOp) (v : Byte) : (op.writeBack v s).draws = s.draws := by cases op <;> rfl

@[simp] theorem State.setSp_sp (v : Word) : (s.setSp v).sp = v := rfl
@[simp] theorem State.advance_pc (n : Nat) : (s.advance n).pc = s.pc + BitVec.ofNat 16 n := rfl
@[simp] theorem State.jump_pc (a : Word) : (s.jump a).pc = a := rfl
@[simp] theorem State.tick_r : s.tick.r = refresh s.r := rfl
@[simp] theorem State.setF_draws (u : FlagSet) : (s.setF u).draws = s.draws + 2 := rfl
@[simp] theorem State.drawByte_snd : (drawByte s).2 = { s with draws := s.draws + 1 } := rfl

/-! ### Registers of a bank and the flags -/

theorem Bank.get_put (k : Bank) (q r : Reg8) (v : Byte) : (k.put r v).get q = if q = r then v else k.get q := by
  cases q <;> cases r <;> rfl
@[simp] theorem Bank.get_put_self (k : Bank) (r : Reg8) (v : Byte) : (k.put r v).get r = v := by cases r <;> rfl
@[simp] theorem Bank.put_f (k : Bank) (r : Reg8) (v : Byte) : (k.put r v).f = k.f := by cases r <;> rfl
@[simp] theorem Bank.get_putF (k : Bank) (q : Reg8) (v : Byte) : (k.putF v).get q = k.get q := by cases q <;> rfl
@[simp] theorem Bank.putF_f (k : Bank) (v : Byte) : (k.putF v).f = Flags.ofByte v := rfl

theorem State.reg8_setReg8 (q r : Reg8) (v : Byte) : (s.setReg8 r v).reg8 q = if q = r then v else s.reg8 q :=
  Bank.get_put s.main q r v
@[simp] theorem State.reg8_setReg8_self (r : Reg8) (v : Byte) : (s.setReg8 r v).reg8 r = v := Bank.get_put_self s.main r v
@[simp] theorem State.setReg8_f (r : Reg8) (v : Byte) : (s.setReg8 r v).main.f = s.main.f := Bank.put_f s.main r v
@[simp] theorem State.reg8_setFByte (q : Reg8) (v : Byte) : (s.setFByte v).reg8 q = s.reg8 q := Bank.get_putF s.main q v
@[simp] theorem State.reg8_setF (q : Reg8) (u : FlagSet) : (s.setF u).reg8 q = s.reg8 q := by cases q <;> rfl
@[simp] theorem State.reg8_advance (q : Reg8) (n : Nat) : (s.advance n).reg8 q = s.reg8 q := rfl
@[simp] theorem State.reg8_jump (q : Reg8) (a : Word) : (s.jump a).reg8 q = s.reg8 q := rfl
@[simp] theorem State.reg8_setSp (q : Reg8) (v : Word) : (s.setSp v).reg8 q = s.reg8 q := rfl
@[simp] theorem State.reg8_setIndex (q : Reg8) (x : Index) (v : Word) : (s.setIndex x v).reg8 q = s.reg8 q := by
  cases x <;> rfl
@[simp] theorem State.index_setIndex_self (x : Index) (v : Word) : (s.setIndex x v).index x = v := by cases x <;> rfl
theorem State.index_setIndex (x y : Index) (v : Word) : (s.setIndex x v).index y = if y = x then v else s.index y := by
  cases x <;> cases y <;> rfl

/-! ### Bytes and words -/

/-- The halves of `cat`. -/
@[simp] theorem hi_cat (h l : Byte) : hi (cat h l) = h := by
  apply BitVec.eq_of_toNat_eq
  have := h.isLt; have := l.isLt
  simp only [hi, cat, BitVec.toNat_ofNat]; omega

@[simp] theorem lo_cat (h l : Byte) : lo (cat h l) = l := by
  apply BitVec.eq_of_toNat_eq
  have := h.isLt; have := l.isLt
  simp only [lo, cat, BitVec.toNat_ofNat]; omega

@[simp] theorem cat_hi_lo (w : Word) : cat (hi w) (lo w) = w := by
  apply BitVec.eq_of_toNat_eq
  have := w.isLt
  simp only [hi, lo, cat, BitVec.toNat_ofNat]; omega

@[simp] theorem State.setBc_bc (v : Word) : (s.setBc v).bc = v := cat_hi_lo v
@[simp] theorem State.setDe_de (v : Word) : (s.setDe v).de = v := cat_hi_lo v
@[simp] theorem State.setHl_hl (v : Word) : (s.setHl v).hl = v := cat_hi_lo v

/-- A byte is the byte of its bits. -/
theorem Flags.toByte_ofByte (v : Byte) : (Flags.ofByte v).toByte = v := by
  revert v; decide

/-- The bits of the byte of some bits. -/
theorem Flags.ofByte_toByte (f : Flags) : Flags.ofByte f.toByte = f := by
  obtain ⟨a, b, c, d, e, g, h, i⟩ := f
  revert a b c d e g h i; decide

/-! ### Refresh and fetch -/

theorem State.ticks_eq (n : Nat) : State.ticks n s = { s with r := Nat.iterate refresh n s.r } := by
  induction n generalizing s with
  | zero => rfl
  | succ n ih => simp only [State.ticks, ih]; rfl

@[simp] theorem State.begin_main (bytes : List Byte) : (s.begin bytes).main = s.main := by simp [State.begin, State.ticks_eq]
@[simp] theorem State.begin_shadow (bytes : List Byte) : (s.begin bytes).shadow = s.shadow := by simp [State.begin, State.ticks_eq]
@[simp] theorem State.begin_ix (bytes : List Byte) : (s.begin bytes).ix = s.ix := by simp [State.begin, State.ticks_eq]
@[simp] theorem State.begin_iy (bytes : List Byte) : (s.begin bytes).iy = s.iy := by simp [State.begin, State.ticks_eq]
@[simp] theorem State.begin_sp (bytes : List Byte) : (s.begin bytes).sp = s.sp := by simp [State.begin, State.ticks_eq]
@[simp] theorem State.begin_written (bytes : List Byte) : (s.begin bytes).written = s.written := by simp [State.begin, State.ticks_eq]
@[simp] theorem State.begin_pc (bytes : List Byte) : (s.begin bytes).pc = s.pc := by simp [State.begin, State.ticks_eq]
@[simp] theorem State.begin_i (bytes : List Byte) : (s.begin bytes).i = s.i := by simp [State.begin, State.ticks_eq]
@[simp] theorem State.begin_iff1 (bytes : List Byte) : (s.begin bytes).iff1 = s.iff1 := by simp [State.begin, State.ticks_eq]
@[simp] theorem State.begin_iff2 (bytes : List Byte) : (s.begin bytes).iff2 = s.iff2 := by simp [State.begin, State.ticks_eq]
@[simp] theorem State.begin_im (bytes : List Byte) : (s.begin bytes).im = s.im := by simp [State.begin, State.ticks_eq]
@[simp] theorem State.begin_halted (bytes : List Byte) : (s.begin bytes).halted = s.halted := by simp [State.begin, State.ticks_eq]
@[simp] theorem State.begin_fault (bytes : List Byte) : (s.begin bytes).fault = s.fault := by simp [State.begin, State.ticks_eq]
@[simp] theorem State.begin_lines (bytes : List Byte) : (s.begin bytes).lines = s.lines := by simp [State.begin, State.ticks_eq]
@[simp] theorem State.begin_bus (bytes : List Byte) : (s.begin bytes).bus = s.bus := by simp [State.begin, State.ticks_eq]
@[simp] theorem State.begin_draws (bytes : List Byte) : (s.begin bytes).draws = s.draws := by simp [State.begin, State.ticks_eq]
@[simp] theorem State.begin_eiShadow (bytes : List Byte) : (s.begin bytes).eiShadow = false := rfl
@[simp] theorem State.begin_boundaryUsed (bytes : List Byte) : (s.begin bytes).boundaryUsed = false := rfl

end Sys2Proof.Machine
end

