-- ==== Sys2Proof/Laws/Ops.lean ====
section
/-! SUPPORT. For each shared operation over memory, ports and the stack, one equation that says everything it can do; what
an access leaves unchanged; and how `afterwards` and `withValue` come apart. -/

namespace Sys2Proof.Machine

/-! ### Sequencing -/

@[simp] theorem afterwards_next {α β : Type} (a : α) (f : α → Out β) : afterwards (.next a) f = f a := rfl
@[simp] theorem afterwards_fault {α β : Type} (r : Fault) (f : α → Out β) : afterwards (.fault r) f = .fault r := rfl
@[simp] theorem afterwards_refused {α β : Type} (r : Refusal) (f : α → Out β) :
    afterwards (.refused r) f = .refused r := rfl
@[simp] theorem withValue_next {α β : Type} (a : α) (s : State) (f : α → State → Out β) :
    withValue (.next (a, s)) f = f a s := rfl
@[simp] theorem withValue_fault {α β : Type} (r : Fault) (f : α → State → Out β) :
    withValue (.fault r) f = .fault r := rfl

/-- What a sequence that answers a next state did. -/
theorem afterwards_eq_next {α β : Type} {x : Out α} {f : α → Out β} {b : β} (h : afterwards x f = .next b) :
    ∃ a, x = .next a ∧ f a = .next b := by
  cases x with
  | next a => exact ⟨a, rfl, h⟩
  | fault r => cases h
  | refused r => cases h

/-- What a read and what follows it did, if they answer a next state. -/
theorem withValue_eq_next {α β : Type} {x : Out (α × State)} {f : α → State → Out β} {b : β}
    (h : withValue x f = .next b) : ∃ a s, x = .next (a, s) ∧ f a s = .next b := by
  obtain ⟨⟨a, s⟩, h1, h2⟩ := afterwards_eq_next h
  exact ⟨a, s, h1, h2⟩

/-- Where a sequence faults: in its first part or in its second. -/
theorem afterwards_eq_fault {α β : Type} {x : Out α} {f : α → Out β} {r : Fault} (h : afterwards x f = .fault r) :
    x = .fault r ∨ ∃ a, x = .next a ∧ f a = .fault r := by
  cases x with
  | next a => exact .inr ⟨a, rfl, h⟩
  | fault q => cases h; exact .inl rfl
  | refused q => cases h

/-! ### One byte access -/

/-- Everything a byte read can do (R73, R78). -/
theorem readPlace_eq (p : Place) (s : State) :
    readPlace p s = match s.bus.readError p with
      | none => .next (s.readValue p, s.sawRead p)
      | some k => .fault (.busError k p s.pc s.bus) := by
  unfold readPlace Bus.readError State.readValue State.sawRead Bus.isDevice
  cases hg : s.bus.regionAt p with
  | none => rfl
  | some g =>
    obtain ⟨lo, hi, rd, wr, w, le, kind⟩ := g
    cases rd <;> cases kind <;> rfl

/-- Everything a byte write can do (R74, R78). -/
theorem writePlace_eq (p : Place) (v : Byte) (s : State) :
    writePlace p v s = match s.bus.writeError p with
      | none => .next (s.sawWrite p v)
      | some k => .fault (.busError k p s.pc s.bus) := by
  unfold writePlace Bus.writeError State.sawWrite Bus.isDevice
  cases hg : s.bus.regionAt p with
  | none => rfl
  | some g =>
    obtain ⟨lo, hi, rd, wr, w, le, kind⟩ := g
    cases wr <;> cases kind <;> rfl

theorem readPlace_ok {p : Place} {s : State} (h : s.bus.readError p = none) :
    readPlace p s = .next (s.readValue p, s.sawRead p) := by rw [readPlace_eq, h]

theorem readPlace_fail {p : Place} {s : State} {k : BusErrorKind} (h : s.bus.readError p = some k) :
    readPlace p s = .fault (.busError k p s.pc s.bus) := by rw [readPlace_eq, h]

theorem writePlace_ok {p : Place} {v : Byte} {s : State} (h : s.bus.writeError p = none) :
    writePlace p v s = .next (s.sawWrite p v) := by rw [writePlace_eq, h]

theorem writePlace_fail {p : Place} {v : Byte} {s : State} {k : BusErrorKind} (h : s.bus.writeError p = some k) :
    writePlace p v s = .fault (.busError k p s.pc s.bus) := by rw [writePlace_eq, h]

/-! ### What an access leaves alone -/
@[simp] theorem State.sawRead_main (s : State) (p : Place) : (s.sawRead p).main = s.main := by
  unfold State.sawRead; split <;> rfl
@[simp] theorem State.sawWrite_main (s : State) (p : Place) (v : Byte) : (s.sawWrite p v).main = s.main := rfl
@[simp] theorem State.sawRead_shadow (s : State) (p : Place) : (s.sawRead p).shadow = s.shadow := by
  unfold State.sawRead; split <;> rfl
@[simp] theorem State.sawWrite_shadow (s : State) (p : Place) (v : Byte) : (s.sawWrite p v).shadow = s.shadow := rfl
@[simp] theorem State.sawRead_ix (s : State) (p : Place) : (s.sawRead p).ix = s.ix := by
  unfold State.sawRead; split <;> rfl
@[simp] theorem State.sawWrite_ix (s : State) (p : Place) (v : Byte) : (s.sawWrite p v).ix = s.ix := rfl
@[simp] theorem State.sawRead_iy (s : State) (p : Place) : (s.sawRead p).iy = s.iy := by
  unfold State.sawRead; split <;> rfl
@[simp] theorem State.sawWrite_iy (s : State) (p : Place) (v : Byte) : (s.sawWrite p v).iy = s.iy := rfl
@[simp] theorem State.sawRead_sp (s : State) (p : Place) : (s.sawRead p).sp = s.sp := by
  unfold State.sawRead; split <;> rfl
@[simp] theorem State.sawWrite_sp (s : State) (p : Place) (v : Byte) : (s.sawWrite p v).sp = s.sp := rfl
@[simp] theorem State.sawRead_written (s : State) (p : Place) : (s.sawRead p).written = s.written := by
  unfold State.sawRead; split <;> rfl
@[simp] theorem State.sawWrite_written (s : State) (p : Place) (v : Byte) : (s.sawWrite p v).written = s.written := rfl
@[simp] theorem State.sawRead_pc (s : State) (p : Place) : (s.sawRead p).pc = s.pc := by
  unfold State.sawRead; split <;> rfl
@[simp] theorem State.sawWrite_pc (s : State) (p : Place) (v : Byte) : (s.sawWrite p v).pc = s.pc := rfl
@[simp] theorem State.sawRead_i (s : State) (p : Place) : (s.sawRead p).i = s.i := by
  unfold State.sawRead; split <;> rfl
@[simp] theorem State.sawWrite_i (s : State) (p : Place) (v : Byte) : (s.sawWrite p v).i = s.i := rfl
@[simp] theorem State.sawRead_r (s : State) (p : Place) : (s.sawRead p).r = s.r := by
  unfold State.sawRead; split <;> rfl
@[simp] theorem State.sawWrite_r (s : State) (p : Place) (v : Byte) : (s.sawWrite p v).r = s.r := rfl
@[simp] theorem State.sawRead_iff1 (s : State) (p : Place) : (s.sawRead p).iff1 = s.iff1 := by
  unfold State.sawRead; split <;> rfl
@[simp] theorem State.sawWrite_iff1 (s : State) (p : Place) (v : Byte) : (s.sawWrite p v).iff1 = s.iff1 := rfl
@[simp] theorem State.sawRead_iff2 (s : State) (p : Place) : (s.sawRead p).iff2 = s.iff2 := by
  unfold State.sawRead; split <;> rfl
@[simp] theorem State.sawWrite_iff2 (s : State) (p : Place) (v : Byte) : (s.sawWrite p v).iff2 = s.iff2 := rfl
@[simp] theorem State.sawRead_im (s : State) (p : Place) : (s.sawRead p).im = s.im := by
  unfold State.sawRead; split <;> rfl
@[simp] theorem State.sawWrite_im (s : State) (p : Place) (v : Byte) : (s.sawWrite p v).im = s.im := rfl
@[simp] theorem State.sawRead_halted (s : State) (p : Place) : (s.sawRead p).halted = s.halted := by
  unfold State.sawRead; split <;> rfl
@[simp] theorem State.sawWrite_halted (s : State) (p : Place) (v : Byte) : (s.sawWrite p v).halted = s.halted := rfl
@[simp] theorem State.sawRead_eiShadow (s : State) (p : Place) : (s.sawRead p).eiShadow = s.eiShadow := by
  unfold State.sawRead; split <;> rfl
@[simp] theorem State.sawWrite_eiShadow (s : State) (p : Place) (v : Byte) : (s.sawWrite p v).eiShadow = s.eiShadow := rfl
@[simp] theorem State.sawRead_boundaryUsed (s : State) (p : Place) : (s.sawRead p).boundaryUsed = s.boundaryUsed := by
  unfold State.sawRead; split <;> rfl
@[simp] theorem State.sawWrite_boundaryUsed (s : State) (p : Place) (v : Byte) : (s.sawWrite p v).boundaryUsed = s.boundaryUsed := rfl
@[simp] theorem State.sawRead_fault (s : State) (p : Place) : (s.sawRead p).fault = s.fault := by
  unfold State.sawRead; split <;> rfl
@[simp] theorem State.sawWrite_fault (s : State) (p : Place) (v : Byte) : (s.sawWrite p v).fault = s.fault := rfl
@[simp] theorem State.sawRead_lines (s : State) (p : Place) : (s.sawRead p).lines = s.lines := by
  unfold State.sawRead; split <;> rfl
@[simp] theorem State.sawWrite_lines (s : State) (p : Place) (v : Byte) : (s.sawWrite p v).lines = s.lines := rfl
@[simp] theorem State.sawWrite_draws (s : State) (p : Place) (v : Byte) : (s.sawWrite p v).draws = s.draws := rfl
@[simp] theorem State.sawRead_reg8 (s : State) (p : Place) (q : Reg8) : (s.sawRead p).reg8 q = s.reg8 q := by
  simp [State.reg8]
@[simp] theorem State.sawWrite_reg8 (s : State) (p : Place) (v : Byte) (q : Reg8) : (s.sawWrite p v).reg8 q = s.reg8 q := rfl
@[simp] theorem State.sawRead_index (s : State) (p : Place) (x : Index) : (s.sawRead p).index x = s.index x := by
  cases x <;> simp [State.index]
@[simp] theorem State.sawWrite_index (s : State) (p : Place) (v : Byte) (x : Index) : (s.sawWrite p v).index x = s.index x := by
  cases x <;> rfl

@[simp] theorem Bus.regionAt_note (b : Bus) (x : Access) (p : Place) : (b.note x).regionAt p = b.regionAt p := by
  cases p <;> rfl
@[simp] theorem Bus.regionAt_store (b : Bus) (q : Place) (v : Byte) (p : Place) :
    (b.store q v).regionAt p = b.regionAt p := by cases p <;> cases q <;> rfl
@[simp] theorem Bus.stored_note (b : Bus) (x : Access) (p : Place) : (b.note x).stored p = b.stored p := by
  cases p <;> rfl

theorem State.sawRead_regionAt (s : State) (q p : Place) : (s.sawRead q).bus.regionAt p = s.bus.regionAt p := by
  unfold State.sawRead; split <;> simp
theorem State.sawWrite_regionAt (s : State) (q : Place) (v : Byte) (p : Place) :
    (s.sawWrite q v).bus.regionAt p = s.bus.regionAt p := by
  unfold State.sawWrite; split <;> simp

@[simp] theorem State.sawRead_readError (s : State) (q p : Place) :
    (s.sawRead q).bus.readError p = s.bus.readError p := by simp only [Bus.readError, State.sawRead_regionAt]
@[simp] theorem State.sawRead_writeError (s : State) (q p : Place) :
    (s.sawRead q).bus.writeError p = s.bus.writeError p := by simp only [Bus.writeError, State.sawRead_regionAt]
@[simp] theorem State.sawRead_isDevice (s : State) (q p : Place) :
    (s.sawRead q).bus.isDevice p = s.bus.isDevice p := by simp only [Bus.isDevice, State.sawRead_regionAt]
@[simp] theorem State.sawWrite_readError (s : State) (q : Place) (v : Byte) (p : Place) :
    (s.sawWrite q v).bus.readError p = s.bus.readError p := by simp only [Bus.readError, State.sawWrite_regionAt]
@[simp] theorem State.sawWrite_writeError (s : State) (q : Place) (v : Byte) (p : Place) :
    (s.sawWrite q v).bus.writeError p = s.bus.writeError p := by simp only [Bus.writeError, State.sawWrite_regionAt]
@[simp] theorem State.sawWrite_isDevice (s : State) (q : Place) (v : Byte) (p : Place) :
    (s.sawWrite q v).bus.isDevice p = s.bus.isDevice p := by simp only [Bus.isDevice, State.sawWrite_regionAt]

@[simp] theorem State.sawRead_stored (s : State) (q p : Place) : (s.sawRead q).bus.stored p = s.bus.stored p := by
  unfold State.sawRead; split <;> simp
@[simp] theorem State.sawRead_memRegions (s : State) (q : Place) :
    (s.sawRead q).bus.memRegions = s.bus.memRegions := by unfold State.sawRead; split <;> rfl
@[simp] theorem State.sawRead_ioRegions (s : State) (q : Place) :
    (s.sawRead q).bus.ioRegions = s.bus.ioRegions := by unfold State.sawRead; split <;> rfl
@[simp] theorem State.sawRead_mem (s : State) (q : Place) : (s.sawRead q).bus.mem = s.bus.mem := by
  unfold State.sawRead; split <;> rfl
@[simp] theorem State.sawRead_io (s : State) (q : Place) : (s.sawRead q).bus.io = s.bus.io := by
  unfold State.sawRead; split <;> rfl
@[simp] theorem State.sawWrite_memRegions (s : State) (q : Place) (v : Byte) :
    (s.sawWrite q v).bus.memRegions = s.bus.memRegions := by
  unfold State.sawWrite; split <;> cases q <;> rfl
@[simp] theorem State.sawWrite_ioRegions (s : State) (q : Place) (v : Byte) :
    (s.sawWrite q v).bus.ioRegions = s.bus.ioRegions := by
  unfold State.sawWrite; split <;> cases q <;> rfl

theorem Bus.stored_store_other (b : Bus) (q p : Place) (v : Byte) (h : p ≠ q) :
    (b.store q v).stored p = b.stored p := by
  cases p <;> cases q <;> first
    | rfl
    | (refine Memory.read_write_other _ _ _ _ ?_
       intro e; exact h (congrArg _ (BitVec.eq_of_toNat_eq e)))

/-- A write leaves every other stored byte alone. -/
theorem State.sawWrite_stored_other (s : State) (q p : Place) (v : Byte) (h : p ≠ q) :
    (s.sawWrite q v).bus.stored p = s.bus.stored p := by
  unfold State.sawWrite; split
  · simp
  · exact Bus.stored_store_other s.bus q p v h

/-- The byte a write stored is there, in canonical storage. -/
theorem State.sawWrite_stored_self (s : State) (q : Place) (v : Byte) (hc : s.canonical = true)
    (hd : s.bus.isDevice q = false) : (s.sawWrite q v).bus.stored q = v := by
  simp only [State.canonical, Bool.and_eq_true, Memory.wf, Memory.portWf] at hc
  simp only [State.sawWrite, hd]
  cases q with
  | mem a => exact Memory.read_write_self s.bus.mem _ v hc.1
  | io p => exact Memory.read_write_self s.bus.io _ v hc.2

@[simp] theorem State.sawRead_canonical (s : State) (q : Place) : (s.sawRead q).canonical = s.canonical := by
  simp [State.canonical]

/-- A write keeps the canonical form. -/
theorem State.sawWrite_canonical (s : State) (q : Place) (v : Byte) (hc : s.canonical = true) :
    (s.sawWrite q v).canonical = true := by
  simp only [State.canonical, Bool.and_eq_true, Memory.wf, Memory.portWf] at hc ⊢
  unfold State.sawWrite
  split
  · exact hc
  · cases q with
    | mem a => exact ⟨Memory.canonical_write _ _ _ hc.1 (Nat.zero_le _) a.isLt, hc.2⟩
    | io p => exact ⟨hc.1, Memory.canonical_write _ _ _ hc.2 (Nat.zero_le _) p.isLt⟩

/-- Whether an access fails does not change with what other accesses did. -/
@[simp] theorem State.saw_error (s : State) (x w : Want) : (s.saw x).bus.error w = s.bus.error w := by
  cases x <;> cases w <;> simp [State.saw, Bus.error]

@[simp] theorem State.sees_error (s : State) (l : List Want) (w : Want) : (s.sees l).bus.error w = s.bus.error w := by
  induction l generalizing s with
  | nil => rfl
  | cons x l ih => rw [State.sees, ih, State.saw_error]

theorem State.sees_append (s : State) (l m : List Want) : s.sees (l ++ m) = (s.sees l).sees m := by
  induction l generalizing s with
  | nil => rfl
  | cons x l ih => exact ih (s.saw x)

/-! ### 16-bit accesses and the stack -/

/-- Everything a 16-bit read can do (R75). -/
theorem memRead16_eq (a : Word) (s : State) :
    memRead16 a s = match s.bus.readError (.mem a) with
      | some k => .fault (.busError k (.mem a) s.pc s.bus)
      | none =>
        match s.bus.readError (.mem (a + 1)) with
        | some k => .fault (.busError k (.mem (a + 1)) s.pc (s.sawRead (.mem a)).bus)
        | none => .next (s.readWord a, s.sawReadWord a) := by
  unfold memRead16 memRead
  rw [readPlace_eq]
  cases h1 : s.bus.readError (.mem a) with
  | some k => rfl
  | none =>
    simp only [withValue_next]
    rw [readPlace_eq, State.sawRead_readError]
    cases h2 : s.bus.readError (.mem (a + 1)) with
    | some k => simp
    | none => rfl

/-- Everything a 16-bit write can do (R76). -/
theorem memWrite16_eq (a v : Word) (s : State) :
    memWrite16 a v s = match s.bus.writeError (.mem a) with
      | some k => .fault (.busError k (.mem a) s.pc s.bus)
      | none =>
        match s.bus.writeError (.mem (a + 1)) with
        | some k => .fault (.busError k (.mem (a + 1)) s.pc (s.sawWrite (.mem a) (lo v)).bus)
        | none => .next (s.sawWriteWord a v) := by
  unfold memWrite16 memWrite
  rw [writePlace_eq]
  cases h1 : s.bus.writeError (.mem a) with
  | some k => rfl
  | none =>
    simp only [afterwards_next]
    rw [writePlace_eq, State.sawWrite_writeError]
    cases h2 : s.bus.writeError (.mem (a + 1)) with
    | some k => simp
    | none => rfl

theorem memRead16_ok {a : Word} {s : State} (h1 : s.bus.readError (.mem a) = none)
    (h2 : s.bus.readError (.mem (a + 1)) = none) : memRead16 a s = .next (s.readWord a, s.sawReadWord a) := by
  rw [memRead16_eq, h1, h2]

theorem memWrite16_ok {a v : Word} {s : State} (h1 : s.bus.writeError (.mem a) = none)
    (h2 : s.bus.writeError (.mem (a + 1)) = none) : memWrite16 a v s = .next (s.sawWriteWord a v) := by
  rw [memWrite16_eq, h1, h2]

/-- A push that can be served (R84). -/
theorem push16_ok {v : Word} {s : State} (h1 : s.bus.writeError (.mem (s.sp - 2)) = none)
    (h2 : s.bus.writeError (.mem (s.sp - 2 + 1)) = none) :
    push16 v s = .next ((s.setSp (s.sp - 2)).sawWriteWord (s.sp - 2) v) := by
  unfold push16; exact memWrite16_ok h1 h2

/-- A pop that can be served (R85). -/
theorem pop16_ok {s : State} (h1 : s.bus.readError (.mem s.sp) = none)
    (h2 : s.bus.readError (.mem (s.sp + 1)) = none) :
    pop16 s = .next (s.readWord s.sp, (s.sawReadWord s.sp).setSp (s.sp + 2)) := by
  unfold pop16; rw [memRead16_ok h1 h2]
  simp [State.sawReadWord]

end Sys2Proof.Machine
end

