-- ==== Sys2Proof/Laws/Meanings.lean ====
section
/-! SUPPORT. For each shared meaning that accesses memory or a port, what it answers when its accesses can be served; the
provers cite these and never unfold the meaning. -/

namespace Sys2Proof.Machine

variable {s : State}

/-- Everything a byte load can do. -/
theorem loadReg_eq (r : Reg8) (a : Word) (len : Nat) (s : State) :
    loadReg r a len s = match s.bus.readError (.mem a) with
      | none => .next (((s.sawRead (.mem a)).setReg8 r (s.readValue (.mem a))).advance len)
      | some k => .fault (.busError k (.mem a) s.pc s.bus) := by
  unfold loadReg memRead
  rw [readPlace_eq]
  cases s.bus.readError (.mem a) <;> rfl

/-- Everything a byte store can do. -/
theorem storeByte_eq (a : Word) (v : Byte) (len : Nat) (s : State) :
    storeByte a v len s = match s.bus.writeError (.mem a) with
      | none => .next ((s.sawWrite (.mem a) v).advance len)
      | some k => .fault (.busError k (.mem a) s.pc s.bus) := by
  unfold storeByte memWrite
  rw [writePlace_eq]
  cases s.bus.writeError (.mem a) <;> rfl

/-- Everything an operation on A and a byte of memory can do. -/
theorem aluMem_eq (op : AluOp) (a : Word) (len : Nat) (s : State) :
    aluMem op a len s = match s.bus.readError (.mem a) with
      | none => alu op (s.readValue (.mem a)) len (s.sawRead (.mem a))
      | some k => .fault (.busError k (.mem a) s.pc s.bus) := by
  unfold aluMem memRead
  rw [readPlace_eq]
  cases s.bus.readError (.mem a) <;> rfl

/-- Everything BIT on a byte of memory can do. -/
theorem testMem_eq (b : Fin 8) (a : Word) (len : Nat) (s : State) :
    testMem b a len s = match s.bus.readError (.mem a) with
      | none => testBit b (s.readValue (.mem a)) len (s.sawRead (.mem a))
      | some k => .fault (.busError k (.mem a) s.pc s.bus) := by
  unfold testMem memRead
  rw [readPlace_eq]
  cases s.bus.readError (.mem a) <;> rfl

/-- Everything a read, change and write back without flags can do. -/
theorem changeByte_eq (g : Byte → Byte) (a : Word) (len : Nat) (s : State) :
    changeByte g a len s = match s.bus.readError (.mem a) with
      | some k => .fault (.busError k (.mem a) s.pc s.bus)
      | none =>
        match s.bus.writeError (.mem a) with
        | some k => .fault (.busError k (.mem a) s.pc (s.sawRead (.mem a)).bus)
        | none => .next (((s.sawRead (.mem a)).sawWrite (.mem a) (g (s.readValue (.mem a)))).advance len) := by
  unfold changeByte memRead memWrite
  rw [readPlace_eq]
  cases s.bus.readError (.mem a) with
  | some k => rfl
  | none =>
    simp only [withValue_next]
    rw [writePlace_eq, State.sawRead_writeError]
    cases s.bus.writeError (.mem a) with
    | some k => simp
    | none => rfl

/-- Everything a read, change and write back with flags can do. -/
theorem updateByte_eq (g : Byte → ByteResult) (a : Word) (len : Nat) (s : State) :
    updateByte g a len s = match s.bus.readError (.mem a) with
      | some k => .fault (.busError k (.mem a) s.pc s.bus)
      | none =>
        match s.bus.writeError (.mem a) with
        | some k => .fault (.busError k (.mem a) s.pc (s.sawRead (.mem a)).bus)
        | none =>
          .next ((((s.sawRead (.mem a)).sawWrite (.mem a) (g (s.readValue (.mem a))).res).setF
            (g (s.readValue (.mem a))).flags).advance len) := by
  unfold updateByte memRead memWrite
  rw [readPlace_eq]
  cases s.bus.readError (.mem a) with
  | some k => rfl
  | none =>
    simp only [withValue_next]
    rw [writePlace_eq, State.sawRead_writeError]
    cases s.bus.writeError (.mem a) with
    | some k => simp
    | none => rfl

/-- RLD or RRD, served. -/
theorem rotateDigits_ok (f : Byte → Byte → Byte × Byte) (h1 : s.bus.readError (.mem s.hl) = none)
    (h2 : s.bus.writeError (.mem s.hl) = none) :
    rotateDigits f s = .next (((((s.sawRead (.mem s.hl)).sawWrite (.mem s.hl) (f s.main.a (s.readValue (.mem s.hl))).2).setReg8
      .a (f s.main.a (s.readValue (.mem s.hl))).1).setF
        (resultFlags (f s.main.a (s.readValue (.mem s.hl))).1 none)).advance 2) := by
  unfold rotateDigits memRead memWrite
  rw [readPlace_ok h1]
  simp only [withValue_next, State.sawRead_main, State.hl] at *
  rw [writePlace_ok (by simpa using h2)]
  simp

/-- A 16-bit load of a pair, served. -/
theorem loadPair_ok (p : Pair) (len : Nat) {a : Word} (h1 : s.bus.readError (.mem a) = none)
    (h2 : s.bus.readError (.mem (a + 1)) = none) :
    loadPair p a len s = .next (((s.sawReadWord a).setPair p (s.readWord a)).advance len) := by
  unfold loadPair; rw [memRead16_ok h1 h2]; rfl

/-- A 16-bit load of an index register, served. -/
theorem loadIndex_ok (x : Index) {a : Word} (h1 : s.bus.readError (.mem a) = none)
    (h2 : s.bus.readError (.mem (a + 1)) = none) :
    loadIndex x a s = .next (((s.sawReadWord a).setIndex x (s.readWord a)).advance 4) := by
  unfold loadIndex; rw [memRead16_ok h1 h2]; rfl

/-- Everything a 16-bit store can do. -/
theorem storeWord_eq (a v : Word) (len : Nat) (s : State) :
    storeWord a v len s = match s.bus.writeError (.mem a) with
      | some k => .fault (.busError k (.mem a) s.pc s.bus)
      | none =>
        match s.bus.writeError (.mem (a + 1)) with
        | some k => .fault (.busError k (.mem (a + 1)) s.pc (s.sawWrite (.mem a) (lo v)).bus)
        | none => .next ((s.sawWriteWord a v).advance len) := by
  unfold storeWord
  rw [memWrite16_eq]
  cases s.bus.writeError (.mem a) with
  | some k => rfl
  | none => cases s.bus.writeError (.mem (a + 1)) <;> rfl

/-- A push, served. -/
theorem pushWord_ok (v : Word) (len : Nat) (h1 : s.bus.writeError (.mem (s.sp - 2)) = none)
    (h2 : s.bus.writeError (.mem (s.sp - 2 + 1)) = none) :
    pushWord v len s = .next (((s.setSp (s.sp - 2)).sawWriteWord (s.sp - 2) v).advance len) := by
  unfold pushWord; rw [push16_ok h1 h2]; rfl

/-- A call, served. -/
theorem callTo_ok (target : Word) (len : Nat) (h1 : s.bus.writeError (.mem (s.sp - 2)) = none)
    (h2 : s.bus.writeError (.mem (s.sp - 2 + 1)) = none) :
    callTo target len s =
      .next (((s.setSp (s.sp - 2)).sawWriteWord (s.sp - 2) (s.pc + BitVec.ofNat 16 len)).jump target) := by
  unfold callTo; rw [push16_ok h1 h2]; rfl

/-- A pop into a pair, served. -/
theorem popPair_ok (q : StackPair) (h1 : s.bus.readError (.mem s.sp) = none)
    (h2 : s.bus.readError (.mem (s.sp + 1)) = none) :
    popPair q s =
      .next ((((s.sawReadWord s.sp).setSp (s.sp + 2)).setStackPair q (s.readWord s.sp)).advance 1) := by
  unfold popPair; rw [pop16_ok h1 h2]; rfl

/-- A pop into an index register, served. -/
theorem popIndex_ok (x : Index) (h1 : s.bus.readError (.mem s.sp) = none)
    (h2 : s.bus.readError (.mem (s.sp + 1)) = none) :
    popIndex x s = .next ((((s.sawReadWord s.sp).setSp (s.sp + 2)).setIndex x (s.readWord s.sp)).advance 2) := by
  unfold popIndex; rw [pop16_ok h1 h2]; rfl

/-- A return, served. -/
theorem returnTo_ok (h1 : s.bus.readError (.mem s.sp) = none) (h2 : s.bus.readError (.mem (s.sp + 1)) = none) :
    returnTo s = .next (((s.sawReadWord s.sp).setSp (s.sp + 2)).jump (s.readWord s.sp)) := by
  unfold returnTo; rw [pop16_ok h1 h2]; rfl

/-- A return from an interrupt handler, served. -/
theorem returnFromInterrupt_ok (h1 : s.bus.readError (.mem s.sp) = none)
    (h2 : s.bus.readError (.mem (s.sp + 1)) = none) :
    returnFromInterrupt s =
      .next { ((s.sawReadWord s.sp).setSp (s.sp + 2)).jump (s.readWord s.sp) with iff1 := s.iff2 } := by
  unfold returnFromInterrupt; rw [pop16_ok h1 h2]
  simp [State.sawReadWord]

/-- What a 16-bit read leaves alone, as one equation. -/
theorem State.sawReadWord_eq (a : Word) (s : State) :
    s.sawReadWord a = { s with draws := (s.sawReadWord a).draws, bus := (s.sawReadWord a).bus } := by
  unfold State.sawReadWord State.sawRead
  split <;> split <;> rfl

/-- What a read leaves alone, as one equation. -/
theorem State.sawRead_eq (p : Place) (s : State) :
    s.sawRead p = { s with draws := (s.sawRead p).draws, bus := (s.sawRead p).bus } := by
  unfold State.sawRead
  split <;> rfl

/-- EX (SP),HL, served. -/
theorem exchangeHl_ok (h1 : s.bus.readError (.mem s.sp) = none) (h2 : s.bus.readError (.mem (s.sp + 1)) = none)
    (h3 : s.bus.writeError (.mem s.sp) = none) (h4 : s.bus.writeError (.mem (s.sp + 1)) = none) :
    exchangeHl s =
      .next ((((s.sawReadWord s.sp).sawWriteWord s.sp s.hl).setHl (s.readWord s.sp)).advance 1) := by
  unfold exchangeHl
  rw [memRead16_ok h1 h2, withValue_next]
  have e1 : (s.sawReadWord s.sp).sp = s.sp := by simp [State.sawReadWord]
  have e2 : (s.sawReadWord s.sp).hl = s.hl := by simp [State.sawReadWord, State.hl]
  rw [e1, e2, memWrite16_ok (by simpa [State.sawReadWord] using h3) (by simpa [State.sawReadWord] using h4)]
  rfl

/-- EX (SP),XY, served. -/
theorem exchangeIndex_ok (x : Index) (h1 : s.bus.readError (.mem s.sp) = none)
    (h2 : s.bus.readError (.mem (s.sp + 1)) = none) (h3 : s.bus.writeError (.mem s.sp) = none)
    (h4 : s.bus.writeError (.mem (s.sp + 1)) = none) :
    exchangeIndex x s =
      .next ((((s.sawReadWord s.sp).sawWriteWord s.sp (s.index x)).setIndex x (s.readWord s.sp)).advance 2) := by
  unfold exchangeIndex
  rw [memRead16_ok h1 h2, withValue_next]
  have e1 : (s.sawReadWord s.sp).sp = s.sp := by simp [State.sawReadWord]
  have e2 : (s.sawReadWord s.sp).index x = s.index x := by simp [State.sawReadWord]
  rw [e1, e2, memWrite16_ok (by simpa [State.sawReadWord] using h3) (by simpa [State.sawReadWord] using h4)]
  rfl

/-- A block transfer step, served. -/
theorem transfer_ok (dir : Dir) (rep : Bool) (h1 : s.bus.readError (.mem s.hl) = none)
    (h2 : s.bus.writeError (.mem s.de) = none) :
    transfer dir rep s = blockEnd (rep && decide (s.bc - 1 ≠ 0))
      ((((((s.sawRead (.mem s.hl)).sawWrite (.mem s.de) (s.readValue (.mem s.hl))).setDe (dir.step s.de)).setHl
        (dir.step s.hl)).setBc (s.bc - 1)).setF (transferFlags (s.bc - 1))) := by
  unfold transfer memRead memWrite
  rw [readPlace_ok h1, withValue_next]
  have e1 : (s.sawRead (.mem s.hl)).de = s.de := by simp [State.de]
  rw [e1, writePlace_ok (by simpa using h2), afterwards_next]
  have e2 : ((s.sawRead (.mem s.hl)).sawWrite (.mem s.de) (s.readValue (.mem s.hl))).bc = s.bc := by simp [State.bc]
  have e3 : ((s.sawRead (.mem s.hl)).sawWrite (.mem s.de) (s.readValue (.mem s.hl))).de = s.de := by simp [State.de]
  have e4 : ((s.sawRead (.mem s.hl)).sawWrite (.mem s.de) (s.readValue (.mem s.hl))).hl = s.hl := by simp [State.hl]
  rw [e2, e3, e4]

/-- A block search step, served. -/
theorem search_ok (dir : Dir) (rep : Bool) (h1 : s.bus.readError (.mem s.hl) = none) :
    search dir rep s =
      blockEnd (rep && decide (s.bc - 1 ≠ 0) && decide (s.main.a - s.readValue (.mem s.hl) ≠ 0))
        ((((s.sawRead (.mem s.hl)).setHl (dir.step s.hl)).setBc (s.bc - 1)).setF
          (searchFlags s.main.a (s.readValue (.mem s.hl)) (s.bc - 1))) := by
  unfold search memRead
  rw [readPlace_ok h1, withValue_next]
  simp only [State.bc, State.hl, State.sawRead_main]
  rfl

/-- A block input step, served. -/
theorem blockIn_ok (dir : Dir) (rep : Bool) (h1 : s.bus.readError (.io s.main.c) = none)
    (h2 : s.bus.writeError (.mem s.hl) = none) :
    blockIn dir rep s = blockEnd (rep && decide (s.main.b - 1 ≠ 0))
      ((((s.sawRead (.io s.main.c)).sawWrite (.mem s.hl) (s.readValue (.io s.main.c))).setHl (dir.step s.hl)).setReg8 .b
        (s.main.b - 1)).setBlockFlags := by
  unfold blockIn ioRead memWrite
  rw [readPlace_ok h1, withValue_next]
  have e1 : (s.sawRead (.io s.main.c)).hl = s.hl := by simp [State.hl]
  rw [e1, writePlace_ok (by simpa using h2), afterwards_next]
  simp [State.hl]

/-- A block output step, served. -/
theorem blockOut_ok (dir : Dir) (rep : Bool) (h1 : s.bus.readError (.mem s.hl) = none)
    (h2 : s.bus.writeError (.io s.main.c) = none) :
    blockOut dir rep s = blockEnd (rep && decide (s.main.b - 1 ≠ 0))
      (((((s.sawRead (.mem s.hl)).setReg8 .b (s.main.b - 1)).sawWrite (.io s.main.c) (s.readValue (.mem s.hl))).setHl
        (dir.step s.hl))).setBlockFlags := by
  unfold blockOut memRead ioWrite
  rw [readPlace_ok h1, withValue_next]
  simp only [State.sawRead_main]
  rw [writePlace_ok (by simpa using h2), afterwards_next]
  have e1 : (((s.sawRead (.mem s.hl)).setReg8 .b (s.main.b - 1)).sawWrite (.io s.main.c) (s.readValue (.mem s.hl))).hl
      = s.hl := by simp [State.hl, State.setReg8, Bank.put]
  rw [e1]
  simp [State.setReg8, Bank.put]

end Sys2Proof.Machine
end

