-- ==== Sys2Proof/Laws/Accesses.lean ====
section
/-! SUPPORT. How a meaning is held against a list of accesses: one lemma per access, so that a meaning made of reads and writes
is followed one access at a time. -/

namespace Sys2Proof.Machine

/-- From `s`, the outcome `x` makes the accesses `l` in order: with all of them served it is a next state whose bus has seen
them; otherwise it is the BusError of the first that fails, after those before it (R504). -/
def Runs (x : Out State) (s : State) (l : List Want) : Prop :=
  match firstError s.bus l with
  | none => ∃ t, x = .next t ∧ t.bus = (s.sees l).bus
  | some (k, p) => x = .fault (.busError k p s.pc (s.sees (served s.bus l)).bus)

theorem Runs.none {s t : State} (h : t.bus = s.bus) : Runs (.next t) s [] := ⟨t, rfl, h⟩

/-- Which accesses fail, and which come before the first that does, does not change with what other accesses did. -/
theorem firstError_congr {b c : Bus} (l : List Want) (h : ∀ w, b.error w = c.error w) :
    firstError b l = firstError c l ∧ served b l = served c l := by
  induction l with
  | nil => exact ⟨rfl, rfl⟩
  | cons w l ih => simp only [firstError, served, h, ih.1, ih.2]; exact ⟨trivial, trivial⟩

theorem State.saw_pc (s : State) (w : Want) : (s.saw w).pc = s.pc := by cases w <;> simp [State.saw]

/-- One access that is served, then the rest. -/
theorem Runs.step {s : State} {w : Want} {x y : Out State} {l : List Want} (hf : ∀ k, s.bus.error w = some k →
    x = .fault (.busError k w.place s.pc s.bus)) (hn : s.bus.error w = Option.none → x = y) (hy : Runs y (s.saw w) l) :
    Runs x s (w :: l) := by
  unfold Runs at hy ⊢
  obtain ⟨e1, e2⟩ := firstError_congr l (fun v => State.saw_error s w v)
  rw [e1, e2, State.saw_pc] at hy
  simp only [firstError, served]
  cases h : s.bus.error w with
  | some k => exact hf k h
  | none => rw [hn h]; exact hy

theorem Runs.read {s : State} {p : Place} {f : Byte → State → Out State} {l : List Want}
    (h : Runs (f (s.readValue p) (s.sawRead p)) (s.sawRead p) l) :
    Runs (withValue (readPlace p s) f) s (.read p :: l) :=
  Runs.step (fun _ hk => by rw [readPlace_fail hk]; rfl) (fun hn => by rw [readPlace_ok hn]; rfl) h

theorem Runs.write {s : State} {p : Place} {v : Byte} {f : State → Out State} {l : List Want}
    (h : Runs (f (s.sawWrite p v)) (s.sawWrite p v) l) :
    Runs (afterwards (writePlace p v s) f) s (.write p v :: l) :=
  Runs.step (fun _ hk => by rw [writePlace_fail hk]; rfl) (fun hn => by rw [writePlace_ok hn]; rfl) h

/-- The bus and the draws that one access leaves depend on the bus and the draws before it only. -/
theorem State.saw_congr {s u : State} (w : Want) (hb : u.bus = s.bus) (hd : u.draws = s.draws) :
    (u.saw w).bus = (s.saw w).bus ∧ (u.saw w).draws = (s.saw w).draws := by
  cases w with
  | read p => simp only [State.saw, State.sawRead, hb, hd]; split <;> simp [hb, hd]
  | write p v => simp [State.saw, State.sawWrite, hb, hd]

/-- So do those that a list of accesses leaves. -/
theorem State.sees_congr {s u : State} (l : List Want) (hb : u.bus = s.bus) (hd : u.draws = s.draws) :
    (u.sees l).bus = (s.sees l).bus ∧ (u.sees l).draws = (s.sees l).draws := by
  induction l generalizing s u with
  | nil => exact ⟨hb, hd⟩
  | cons w l ih => exact ih (State.saw_congr w hb hd).1 (State.saw_congr w hb hd).2

/-- So does what a byte read answers. -/
theorem State.readValue_congr {s u : State} (p : Place) (hb : u.bus = s.bus) (hd : u.draws = s.draws) :
    u.readValue p = s.readValue p := by simp only [State.readValue, hb, hd]

/-- So does what a 16-bit read answers. -/
theorem State.readWord_congr {s u : State} (a : Word) (hb : u.bus = s.bus) (hd : u.draws = s.draws) :
    u.readWord a = s.readWord a := by
  have h := State.saw_congr (.read (.mem a)) hb hd
  exact congrArg₂ cat (State.readValue_congr _ h.1 h.2) (State.readValue_congr _ hb hd)

/-- A change of state that leaves the bus, the draws and PC alone. -/
theorem Runs.congr {s u : State} {x : Out State} {l : List Want} (hb : u.bus = s.bus) (hd : u.draws = s.draws)
    (hp : u.pc = s.pc) (h : Runs x u l) : Runs x s l := by
  unfold Runs at h ⊢
  rw [hb, hp, (State.sees_congr l hb hd).1, (State.sees_congr (served s.bus l) hb hd).1] at h
  exact h

/-- A read, the value and state after it given as they stand. -/
theorem withValue_withValue {α β γ : Type} (x : Out (α × State)) (f : α → State → Out (β × State))
    (g : β → State → Out γ) : withValue (withValue x f) g = withValue x (fun a s => withValue (f a s) g) := by
  cases x <;> rfl

theorem afterwards_afterwards {α β γ : Type} (x : Out α) (f : α → Out β) (g : β → Out γ) :
    afterwards (afterwards x f) g = afterwards x (fun a => afterwards (f a) g) := by cases x <;> rfl

/-- A 16-bit read, the low byte first (R75). -/
theorem Runs.read16 {s : State} {a : Word} {f : Word → State → Out State} {l : List Want}
    (h : Runs (f (s.readWord a) (s.sawReadWord a)) (s.sawReadWord a) l) :
    Runs (withValue (memRead16 a s) f) s (wantRead16 a ++ l) := by
  unfold memRead16
  rw [withValue_withValue]
  simp only [withValue_withValue]
  exact Runs.read (Runs.read h)

/-- A 16-bit write, the low byte first (R76). -/
theorem Runs.write16 {s : State} {a v : Word} {f : State → Out State} {l : List Want}
    (h : Runs (f (s.sawWriteWord a v)) (s.sawWriteWord a v) l) :
    Runs (afterwards (memWrite16 a v s) f) s (wantWrite16 a v ++ l) := by
  unfold memWrite16
  rw [afterwards_afterwards]
  exact Runs.write (Runs.write h)

/-- A push (R84). -/
theorem Runs.push {s : State} {v : Word} {f : State → Out State} {l : List Want}
    (h : Runs (f ((s.setSp (s.sp - 2)).sawWriteWord (s.sp - 2) v)) ((s.setSp (s.sp - 2)).sawWriteWord (s.sp - 2) v) l) :
    Runs (afterwards (push16 v s) f) s (wantPush v s ++ l) :=
  Runs.congr (u := s.setSp (s.sp - 2)) rfl rfl rfl (Runs.write16 h)

/-- A pop (R85). -/
theorem Runs.pop {s : State} {f : Word → State → Out State} {l : List Want}
    (h : Runs (f (s.readWord s.sp) ((s.sawReadWord s.sp).setSp (s.sp + 2)))
      ((s.sawReadWord s.sp).setSp (s.sp + 2)) l) :
    Runs (withValue (pop16 s) f) s (wantRead16 s.sp ++ l) := by
  unfold pop16
  rw [withValue_withValue]
  refine Runs.read16 (Runs.congr (u := (s.sawReadWord s.sp).setSp (s.sp + 2)) rfl rfl rfl ?_)
  have e : (s.sawReadWord s.sp).sp = s.sp := by simp [State.sawReadWord]
  rw [withValue_next, e]
  exact h

/-! ### The order of reads and accesses -/

/-- The access of an event, if it is one. -/
def Event.want : Event → Option Want
  | .reg _ => Option.none
  | .access w => some w

@[simp] theorem filterMap_reads (l : List Marked) : (reads l).filterMap Event.want = [] := by
  induction l with
  | nil => rfl
  | cons m l ih => exact ih

@[simp] theorem filterMap_acts (l : List Want) : (acts l).filterMap Event.want = l := by
  induction l with
  | nil => rfl
  | cons w l ih => exact congrArg (w :: ·) ih

/-- The accesses in the order of a rule are the accesses of the instruction. -/
theorem order_accesses (f : Family) (s : State) : (order f s).filterMap Event.want = accesses f s := by
  cases f <;> simp only [order, List.filterMap_append, filterMap_reads, filterMap_acts, List.append_nil, List.nil_append] <;>
    first
      | rfl
      | (simp only [accesses]; split <;> simp)

end Sys2Proof.Machine
end

