-- ==== Sys2Proof/Laws/Arith.lean ====
section
/-! SUPPORT. The arithmetic between the integers of the rules (R8) and the machine's bit vectors, the small laws of pairs, index
registers and stored words, and what it takes for a short list of accesses to be served. -/

namespace Sys2Proof

/-- A signed operand in range survives its byte (R112, R113). -/
theorem sext8_signedCode (d : Int) (h : signedByte d = true) : sext8 (signedCode d) = d := by
  simp only [signedByte, Bool.and_eq_true, decide_eq_true_eq] at h
  simp only [sext8, signedCode, BitVec.toNat_ofInt]
  split <;> omega

/-- A byte read signed and written back is itself. -/
theorem signedCode_sext8 (v : Byte) : signedCode (sext8 v) = v := by revert v; decide

/-- And it is in range. -/
theorem signedByte_sext8 (v : Byte) : signedByte (sext8 v) = true := by revert v; decide

end Sys2Proof

namespace Sys2Proof.Machine

/-! ### Numbers -/

theorem trunc8_natCast (n : Nat) : trunc8 (n : Int) = BitVec.ofNat 8 n := by simp [trunc8]
theorem trunc16_natCast (n : Nat) : trunc16 (n : Int) = BitVec.ofNat 16 n := by simp [trunc16]

theorem trunc8_lo (v : Word) : trunc8 v.toNat = lo v := by simp [trunc8, lo]
theorem trunc8_hi (v : Word) : trunc8 (v.toNat / 256 : Nat) = hi v := by rw [trunc8_natCast, hi]

theorem Dir.step_eq (d : Dir) (w : Word) : d.step w = trunc16 (w.toNat + d.delta) := by
  apply BitVec.eq_of_toNat_eq
  have := w.isLt
  cases d <;> simp [Dir.step, Dir.delta, trunc16, BitVec.toNat_ofInt, BitVec.toNat_sub] <;> omega

theorem word_sub_one (w : Word) : w - 1 = trunc16 ((w.toNat : Int) - 1) := Dir.step_eq .down w
theorem word_add_one (w : Word) : w + 1 = trunc16 ((w.toNat : Int) + 1) := Dir.step_eq .up w
theorem byte_sub_one (v : Byte) : v - 1 = trunc8 ((v.toNat : Int) - 1) := by revert v; decide

theorem word_sub_two (w : Word) : trunc16 ((w.toNat : Int) - 2) = w - 2 := by
  apply BitVec.eq_of_toNat_eq
  have := w.isLt
  simp [trunc16, BitVec.toNat_ofInt, BitVec.toNat_sub]; omega

theorem word_add_two (w : Word) : trunc16 ((w.toNat : Int) + 2) = w + 2 := by
  apply BitVec.eq_of_toNat_eq
  have := w.isLt
  simp [trunc16, BitVec.toNat_ofInt]; omega

theorem word_ne_add_one (a : Word) : a ≠ a + 1 := by
  intro h
  have := congrArg BitVec.toNat h
  simp at this
  omega

theorem bit7_eq_msb (v : Byte) : v.getLsbD 7 = v.msb := by simp [BitVec.msb_eq_getLsbD_last]
theorem bit15_eq_msb (v : Word) : v.getLsbD 15 = v.msb := by simp [BitVec.msb_eq_getLsbD_last]

theorem parity_eq_evenOnes (v : Byte) : parity v = evenOnes v := by revert v; decide

theorem setBit_bits (b : Fin 8) (v : Byte) :
    ∀ k, k < 8 → (setBit b v).getLsbD k = if k = b.val then true else v.getLsbD k := by
  revert v; revert b; decide

theorem resBit_bits (b : Fin 8) (v : Byte) :
    ∀ k, k < 8 → (resBit b v).getLsbD k = if k = b.val then false else v.getLsbD k := by
  revert v; revert b; decide

/-- Signed overflow of an addition by sign bits, in the naturals. -/
theorem overflow_add (m a v c : Nat) (ha : a < 2 * m) (hv : v < 2 * m) (hc : c ≤ 1) (hm : 0 < m) :
    (((if a < m then (a : Int) else a - 2 * m) + (if v < m then (v : Int) else v - 2 * m) + c < -m ∨
      (if a < m then (a : Int) else a - 2 * m) + (if v < m then (v : Int) else v - 2 * m) + c > m - 1) ↔
    ((a ≥ m ↔ v ≥ m) ∧ ¬ ((a + v + c) % (2 * m) ≥ m ↔ v ≥ m))) := by
  have hmod : (a + v + c) % (2 * m) = if a + v + c < 2 * m then a + v + c else a + v + c - 2 * m := by
    split
    · exact Nat.mod_eq_of_lt ‹_›
    · rw [Nat.mod_eq_sub_mod (by omega)]; exact Nat.mod_eq_of_lt (by omega)
  rw [hmod]
  split <;> split <;> split <;> omega

/-! ### Pairs and index registers -/

theorem State.pair_setPair (s : State) (p : Pair) (v : Word) : (s.setPair p v).pair p = v := by
  cases p <;> simp [State.setPair, State.pair]

theorem State.reg8_setPair (s : State) (p : Pair) (v : Word) (q : Reg8) (h : q ∉ p.regs) :
    (s.setPair p v).reg8 q = s.reg8 q := by
  cases p <;> cases q <;> simp [Pair.regs] at h <;> rfl

theorem State.stackPair_setStackPair (s : State) (q : StackPair) (v : Word) : (s.setStackPair q v).stackPair q = v := by
  cases q
  · exact cat_hi_lo v
  · exact cat_hi_lo v
  · exact cat_hi_lo v
  · show cat (hi v) (Flags.ofByte (lo v)).toByte = v
    rw [Flags.toByte_ofByte, cat_hi_lo]

@[simp] theorem State.index_setReg8 (s : State) (r : Reg8) (v : Byte) (x : Index) : (s.setReg8 r v).index x = s.index x := by
  cases x <;> rfl
@[simp] theorem State.index_setF (s : State) (u : FlagSet) (x : Index) : (s.setF u).index x = s.index x := by cases x <;> rfl
@[simp] theorem State.index_setSp (s : State) (v : Word) (x : Index) : (s.setSp v).index x = s.index x := by cases x <;> rfl
@[simp] theorem State.index_advance (s : State) (n : Nat) (x : Index) : (s.advance n).index x = s.index x := by
  cases x <;> rfl
@[simp] theorem State.index_jump (s : State) (v : Word) (x : Index) : (s.jump v).index x = s.index x := by cases x <;> rfl
@[simp] theorem State.index_sawWriteWord (s : State) (a v : Word) (x : Index) :
    (s.sawWriteWord a v).index x = s.index x := by cases x <;> rfl
@[simp] theorem State.sawReadWord_stored (s : State) (a : Word) (p : Place) :
    (s.sawReadWord a).bus.stored p = s.bus.stored p := by simp [State.sawReadWord]

theorem State.setF_f (s : State) (u : FlagSet) :
    (s.setF u).main.f = u.apply (Config.freeBit s.draws) (Config.freeBit (s.draws + 1)) s.main.f := rfl

theorem blockEnd_eq (again : Bool) (s : State) :
    blockEnd again s = .next { s with pc := if again then s.pc else s.pc + 2 } := by cases again <;> rfl

/-- A condition reads the bit of the byte F that `Cond.bit` names (R400). -/
theorem State.cond_eq_met (s : State) (cc : Cond) : s.cond cc = cc.met s.main.f := by
  have key : ∀ (cc : Cond) (a b c d e f g h : Bool),
      State.cond { State.reset with main := { State.reset.main with f := ⟨a, b, c, d, e, f, g, h⟩ } } cc =
        cc.met ⟨a, b, c, d, e, f, g, h⟩ := by
    intro cc; cases cc <;> decide
  obtain ⟨⟨_, ⟨a, b, c, d, e, f, g, h⟩, _, _, _, _, _, _, _⟩, _, _, _, _, _, _, _, _, _, _, _, _, _, _, _, _, _, _⟩ := s
  rw [← key cc a b c d e f g h]
  cases cc <;> rfl

/-! ### Stored words -/

/-- The two bytes of a 16-bit write into storage (R76, R82). -/
theorem State.sawWriteWord_stored (s : State) (a v : Word) (hc : s.canonical = true) (hd : s.wordInStorage a) :
    (s.sawWriteWord a v).bus.stored (.mem a) = lo v ∧ (s.sawWriteWord a v).bus.stored (.mem (a + 1)) = hi v := by
  unfold State.sawWriteWord
  constructor
  · rw [State.sawWrite_stored_other]
    · exact State.sawWrite_stored_self _ _ _ hc hd.1
    · intro h; exact word_ne_add_one a (by injection h)
  · exact State.sawWrite_stored_self _ _ _ (State.sawWrite_canonical _ _ _ hc) (by simpa using hd.2)

theorem storedWord_of_bus {s t : State} {a v : Word} (hb : t.bus = (s.sawWriteWord a v).bus) (hc : s.canonical = true)
    (hd : s.wordInStorage a) : t.storedWord a = v := by
  unfold State.storedWord
  rw [hb, (State.sawWriteWord_stored s a v hc hd).1, (State.sawWriteWord_stored s a v hc hd).2, cat_hi_lo]

/-! ### Lists of accesses that can be served -/

theorem firstError_cons_none {b : Bus} {w : Want} {ws : List Want} :
    firstError b (w :: ws) = none ↔ b.error w = none ∧ firstError b ws = none := by
  simp only [firstError]
  split <;> simp_all

theorem firstError_one {b : Bus} {w : Want} (h : firstError b [w] = none) : b.error w = none :=
  (firstError_cons_none.mp h).1

theorem firstError_two {b : Bus} {w1 w2 : Want} (h : firstError b [w1, w2] = none) :
    b.error w1 = none ∧ b.error w2 = none :=
  ⟨(firstError_cons_none.mp h).1, firstError_one (firstError_cons_none.mp h).2⟩

end Sys2Proof.Machine
end

