-- ==== Sys2Proof/Laws/Interrupt.lean ====
section
/-! SUPPORT. Everything the shared operation that takes an interrupt can do, what each mode makes of it, and what a host move
leaves alone. -/

namespace Sys2Proof.Machine

/-- Everything a push can do (R84). -/
theorem push16_eq (v : Word) (s : State) :
    push16 v s = match s.bus.writeError (.mem (s.sp - 2)) with
      | some k => .fault (.busError k (.mem (s.sp - 2)) s.pc s.bus)
      | none =>
        match s.bus.writeError (.mem (s.sp - 2 + 1)) with
        | some k => .fault (.busError k (.mem (s.sp - 2 + 1)) s.pc (s.sawWrite (.mem (s.sp - 2)) (lo v)).bus)
        | none => .next ((s.setSp (s.sp - 2)).sawWriteWord (s.sp - 2) v) := by
  unfold push16
  rw [memWrite16_eq]
  rfl

/-- The state in which an acceptance has pushed PC (R511). -/
def State.pushed (s : State) : State :=
  ({ s.tick with halted := false, eiShadow := false, boundaryUsed := true }.setSp (s.sp - 2)).sawWriteWord (s.sp - 2) s.pc

/-- Everything taking an interrupt can do (R511). -/
theorem takeInterrupt_eq (target : State → Out (Word × State)) (s : State) :
    takeInterrupt target s = match s.bus.writeError (.mem (s.sp - 2)) with
      | some k => .fault (.busError k (.mem (s.sp - 2)) s.pc s.bus)
      | none =>
        match s.bus.writeError (.mem (s.sp - 2 + 1)) with
        | some k => .fault (.busError k (.mem (s.sp - 2 + 1)) s.pc (s.sawWrite (.mem (s.sp - 2)) (lo s.pc)).bus)
        | none => withValue (target s.pushed) fun v t => .next (t.jump v) := by
  unfold takeInterrupt
  rw [push16_eq]
  show afterwards (match s.bus.writeError (.mem (s.sp - 2)) with
      | some k => _
      | none => match s.bus.writeError (.mem (s.sp - 2 + 1)) with
        | some k => _
        | none => _) _ = _
  cases s.bus.writeError (.mem (s.sp - 2)) with
  | some k => rfl
  | none => cases s.bus.writeError (.mem (s.sp - 2 + 1)) <;> rfl

/-- The byte is one of `11ppp111` (R514). -/
theorem isRst_eq (b : Byte) : isRst b = decide (b.toNat / 64 = 3 ∧ b.toNat % 8 = 7) := by revert b; decide

/-- The address of an RST byte (R414, R514). -/
theorem rst_target (b : Byte) : BitVec.setWidth 16 (b &&& 0x38#8) = trunc16 (8 * (b.toNat / 8 % 8 : Nat)) := by
  revert b; decide

/-- Acceptance in mode 0 (R514). -/
theorem acceptInt_im0 {s : State} (h : s.im = .im0) :
    acceptInt s = if isRst s.lines.intData then
        takeInterrupt (fun t => .next (BitVec.setWidth 16 (s.lines.intData &&& 0x38#8), t))
          { s with iff1 := false, iff2 := false }
      else .fault (.invalidOpcode [s.lines.intData] s.pc s.bus) := by
  simp only [acceptInt]; split
  · rfl
  · rename_i e; rw [h] at e; cases e
  · rename_i e; rw [h] at e; cases e

/-- Acceptance in mode 1 (R515). -/
theorem acceptInt_im1 {s : State} (h : s.im = .im1) :
    acceptInt s = takeInterrupt (fun t => .next (0x0038#16, t)) { s with iff1 := false, iff2 := false } := by
  simp only [acceptInt]; split
  · rename_i e; rw [h] at e; cases e
  · rfl
  · rename_i e; rw [h] at e; cases e

/-- Acceptance in mode 2 (R516). -/
theorem acceptInt_im2 {s : State} (h : s.im = .im2) :
    acceptInt s = takeInterrupt (fun t => memRead16 (cat s.i s.lines.intData) t)
      { s with iff1 := false, iff2 := false } := by
  simp only [acceptInt]; split
  · rename_i e; rw [h] at e; cases e
  · rename_i e; rw [h] at e; cases e
  · rfl

/-- A register write of the host leaves the fault, the halted state and the boundary alone (R530). -/
theorem DebugReg.write_keeps (g : DebugReg) (v : Int) (s : State) :
    (g.write v s).fault = s.fault ∧ (g.write v s).halted = s.halted ∧ (g.write v s).boundaryUsed = s.boundaryUsed := by
  cases g <;> first
    | exact ⟨rfl, rfl, rfl⟩
    | (rename_i a b; cases a <;> cases b <;> exact ⟨rfl, rfl, rfl⟩)
    | (rename_i a; cases a <;> exact ⟨rfl, rfl, rfl⟩)

/-- So does every move of the host (R510, R530). -/
theorem HostMove.apply_keeps (m : HostMove) (s : State) :
    (m.apply s).fault = s.fault ∧ (m.apply s).halted = s.halted ∧ (m.apply s).boundaryUsed = s.boundaryUsed := by
  cases m with
  | signalNmi => exact ⟨rfl, rfl, rfl⟩
  | driveInt => exact ⟨rfl, rfl, rfl⟩
  | setRegister n v =>
    simp only [HostMove.apply, setRegisterValue]
    cases debugReg n with
    | none => exact ⟨rfl, rfl, rfl⟩
    | some g =>
      by_cases h : 0 ≤ v ∧ v ≤ g.top
      · simp only []; rw [if_pos h]; exact g.write_keeps v s
      · simp only []; rw [if_neg h]; exact ⟨rfl, rfl, rfl⟩

end Sys2Proof.Machine
end

