-- ==== Sys2Proof/Tests/Slice0.lean ====
section
/-! SUPPORT. Tests: ill-formed terms refused, words written out bit by bit from the encodings of the spec, vectors of
95_test_vectors.md (each one step), and for every statement with hypotheses a state and operands that meet them. -/

namespace Sys2Proof.Tests

open Sys2Proof Sys2Proof.Machine

set_option maxRecDepth 20000

/-! ### Helpers -/

/-- The start state of a vector: the reset state with PC = 0x0100 (95_test_vectors.md, Conventions). -/
def start : State := { State.reset with pc := 0x0100#16 }

/-- Bytes in memory from `a` on. -/
def put (a : Word) (bytes : List Byte) (s : State) : State :=
  { s with bus := { s.bus with mem := placeBytes bytes a s.bus.mem } }

def setShadow (r : Reg8) (v : Byte) (s : State) : State := { s with shadow := s.shadow.put r v }
def setShadowF (v : Byte) (s : State) : State := { s with shadow := s.shadow.putF v }
def setI (v : Byte) (s : State) : State := { s with i := v }
def setR (v : Byte) (s : State) : State := { s with r := v }
def setIff1 (v : Bool) (s : State) : State := { s with iff1 := v }
def setIff2 (v : Bool) (s : State) : State := { s with iff2 := v }
def setIm (m : IntMode) (s : State) : State := { s with im := m }
def setHalted (s : State) : State := { s with halted := true }
def setEiShadow (s : State) : State := { s with eiShadow := true }
def signalNmi (s : State) : State := HostMove.signalNmi.apply s
def driveInt (data : Byte) (s : State) : State := (HostMove.driveInt true data).apply s

/-- Memory with no region above `high`, all of it readable, and writable where `writable` says so. -/
def memUpTo (high : Nat) (writable : Bool) (s : State) : State :=
  { s with bus := { s.bus with memRegions := [{ low := 0, high := high, readable := true, writable := writable, width := 8,
                                                littleEndian := true, kind := .storage }] } }

/-- No port at all. -/
def noPorts (s : State) : State := { s with bus := { s.bus with ioRegions := [] } }

/-- The state after a step, or the state itself after a step that does not answer one. -/
def next (s : State) : State :=
  match step s with
  | .next t => t
  | .fault _ => s
  | .refused _ => s

/-- The fault of a step, if any. -/
def fault (s : State) : Option Fault :=
  match step s with
  | .next _ => none
  | .fault r => some r
  | .refused _ => none

/-- One step of the instruction at PC. -/
def ran (bytes : List Byte) (s : State) : State := next (put s.pc bytes s)

/-! ### Well-formedness -/

theorem test_wf_refuses_displacement_128 : (Instr.ldAMemIx 128).wf = false := by decide
theorem test_wf_refuses_displacement_below : (Instr.set7MemIy (-129)).wf = false := by decide
theorem test_wf_refuses_displacement_beside_n : (Instr.ldMemIxN 200 0#8).wf = false := by decide
theorem test_wf_refuses_offset_128 : (Instr.jrE 128).wf = false := by decide
theorem test_wf_refuses_offset_below : (Instr.djnzE (-129)).wf = false := by decide
theorem test_wf_takes_the_ends : (Instr.ldAMemIx (-128)).wf = true ∧ (Instr.ldAMemIx 127).wf = true ∧
    (Instr.jrNzE (-128)).wf = true ∧ (Instr.jrCE 127).wf = true ∧ Instr.nop.wf = true := by decide

/-! ### Decoding, each word bit by bit from its rule's Encoding line -/

/-- `LD r,r'` is `01 ddd sss` (R140): D from L. -/
theorem test_decode_ld_d_l : decode [0b01010101#8] = .done .ldDL 1 := by decide
/-- `LD r,n` is `00 ddd 110` n (R141). -/
theorem test_decode_ld_h_n : decode [0b00100110#8, 0x9C#8] = .done (.ldHN 0x9C#8) 2 := by decide
/-- `LD (XY+d),r` is the prefix, `01 110 sss`, d (R145). -/
theorem test_decode_ld_iy_e : decode [0b11111101#8, 0b01110011#8, 0x80#8] = .done (.ldMemIyE (-128)) 3 := by decide
/-- `LD A,R` is ED, `01 011 111` (R155). -/
theorem test_decode_ld_a_r : decode [0b11101101#8, 0b01011111#8] = .done .ldAR 2 := by decide
/-- `LD dd,(nn)` is ED, `01 dd1 011`, nn (R173): DE. -/
theorem test_decode_ld_de_from : decode [0b11101101#8, 0b01011011#8, 0x34#8, 0x12#8] = .done (.ldDeMemNn 0x1234#16) 4 := by
  decide
/-- `PUSH qq` is `11 qq0 101` (R180): AF. -/
theorem test_decode_push_af : decode [0b11110101#8] = .done .pushAf 1 := by decide
/-- `EX (SP),IY` is FD, `11 100 011` (R204). -/
theorem test_decode_ex_sp_iy : decode [0b11111101#8, 0b11100011#8] = .done .exMemSpIy 2 := by decide
/-- LDDR is ED, `10 111 000` (R209). -/
theorem test_decode_lddr : decode [0b11101101#8, 0b10111000#8] = .done .lddr 2 := by decide
/-- CPI is ED, `10 100 001` (R210). -/
theorem test_decode_cpi : decode [0b11101101#8, 0b10100001#8] = .done .cpi 2 := by decide
/-- The eight operations are `10 aaa sss` (R234): SBC A,C. -/
theorem test_decode_sbc_a_c : decode [0b10011001#8] = .done .sbcAC 1 := by decide
/-- and `11 aaa 110` n (R234): XOR n. -/
theorem test_decode_xor_n : decode [0b11101110#8, 0xF0#8] = .done (.xorN 0xF0#8) 2 := by decide
/-- `DEC r` is `00 rrr 101` (R275). -/
theorem test_decode_dec_l : decode [0b00101101#8] = .done .decL 1 := by decide
/-- `IM 2` is ED, `01 011 110` (R311). -/
theorem test_decode_im2 : decode [0b11101101#8, 0b01011110#8] = .done .im2 2 := by decide
/-- `SBC HL,ss` is ED, `01 ss0 010` (R324): SP. -/
theorem test_decode_sbc_hl_sp : decode [0b11101101#8, 0b01110010#8] = .done .sbcHlSp 2 := by decide
/-- `ADD IX,pp` is DD, `00 pp1 001` (R325): 10 is IX itself (R107). -/
theorem test_decode_add_ix_ix : decode [0b11011101#8, 0b00101001#8] = .done .addIxIx 2 := by decide
/-- `SRA (IX+d)` is DD, CB, d, `00 101 110` (R115, R363). -/
theorem test_decode_sra_ix : decode [0b11011101#8, 0b11001011#8, 0xFF#8, 0b00101110#8] = .done (.sraMemIx (-1)) 4 := by
  decide
/-- `RES b,r` is CB, `10 bbb rrr` (R386): bit 5 of A. -/
theorem test_decode_res_5_a : decode [0b11001011#8, 0b10101111#8] = .done .res5A 2 := by decide
/-- `JP cc,nn` is `11 ccc 010`, nn (R402): PE. -/
theorem test_decode_jp_pe : decode [0b11101010#8, 0xFE#8, 0xCA#8] = .done (.jpPeNn 0xCAFE#16) 3 := by decide
/-- `JR cc,e` is `00 1cc 000`, e − 2 (R404). -/
theorem test_decode_jr_nc : decode [0b00110000#8, 0x7F#8] = .done (.jrNcE 127) 2 := by decide
/-- `RST p` is `11 ppp 111` (R414). -/
theorem test_decode_rst_28 : decode [0b11101111#8] = .done .rst28 1 := by decide
/-- `IN r,(C)` is ED, `01 rrr 000` (R432). -/
theorem test_decode_in_l_c : decode [0b11101101#8, 0b01101000#8] = .done .inLPortC 2 := by decide
/-- OTIR is ED, `10 110 011` (R440). -/
theorem test_decode_otir : decode [0b11101101#8, 0b10110011#8] = .done .otir 2 := by decide
/-- The table's numbering: the first byte in the low bits; bytes the table gives no bits are 0. -/
theorem test_decode_table_word : decodeTableWord 16 0x7EDD = some (.ldAMemIx 0) ∧
    decodeTableWord 32 0xC605CBFD = some (.set0MemIy 5) ∧ decodeTableWord 8 0xC3 = some (.jpNn 0#16) ∧
    decodeTableWord 16 0x00DD = none := by decide

/-! ### Stops (95_test_vectors.md 2.2 and 2.3) -/

/-- V47: a prefix on an instruction without HL. -/
theorem test_v47_invalid :
    fault (put 0x0100#16 [0xDD#8, 0x00#8] start) = some (.invalidOpcode [0xDD#8, 0x00#8] 0x0100#16
      (put 0x0100#16 [0xDD#8, 0x00#8] start).bus) := by decide
/-- V50: an undocumented register copy. -/
theorem test_v50_invalid : decode [0xDD#8, 0xCB#8, 0x05#8, 0x00#8] = .invalidOpcode [0xDD#8, 0xCB#8, 0x05#8, 0x00#8] := by
  decide
/-- V42: a fetch at an unmapped PC. -/
theorem test_v42_unmapped : fault (memUpTo 0x4000 true (State.jump 0x4000#16 start)) =
    some (.busError .unmapped (.mem 0x4000#16) 0x4000#16 (memUpTo 0x4000 true start).bus) := by decide
/-- V41: a store to an address that is not writable. -/
theorem test_v41_not_writable :
    let s := memUpTo 0x10000 false (start |> State.setReg8 .a 0x11 |> State.setHl 0x0000 |> put 0x0100 [0x77])
    fault s = some (.busError .notWritable (.mem 0x0000#16) 0x0100#16 s.bus) := by decide
/-- V31: a read of an unwritten register stops the strict step (R509) and not the step (log entry 1). -/
theorem test_v31_unwritten :
    let s := put 0x0100 [0x78] start
    strictStep s = .fault (.unwrittenRegister "B" 0x0100#16 s.bus) ∧ (next s).main.a = 0#8 := ⟨rfl, by decide⟩

/-! ### Interrupts (95_test_vectors.md 2.14) -/

/-- V233. -/
theorem test_v233_nmi :
    let t := next (start |> State.setSp 0x8000 |> setIff1 true |> setIff2 true |> State.jump 0x0200 |> signalNmi)
    t.sp = 0x7FFE ∧ t.iff1 = false ∧ t.iff2 = true ∧ t.bus.stored (.mem 0x7FFE) = 0x00 ∧
    t.bus.stored (.mem 0x7FFF) = 0x02 ∧ t.pc = 0x0066 ∧ t.r = 0x01 ∧ t.lines.nmiPending = false := by decide
/-- V236. -/
theorem test_v236_int_im1 :
    let t := next (start |> State.setSp 0x8000 |> setIff1 true |> setIff2 true |> setIm .im1 |> State.jump 0x0200 |>
      driveInt 0x00)
    t.sp = 0x7FFE ∧ t.iff1 = false ∧ t.iff2 = false ∧ t.bus.stored (.mem 0x7FFE) = 0x00 ∧
    t.bus.stored (.mem 0x7FFF) = 0x02 ∧ t.pc = 0x0038 ∧ t.r = 0x01 := by decide
/-- V237. -/
theorem test_v237_int_im2 :
    let t := next (start |> State.setSp 0x8000 |> setI 0x80 |> setIff1 true |> setIff2 true |> setIm .im2 |>
      put 0x8010 [0x34, 0x12] |> State.jump 0x0200 |> driveInt 0x10)
    t.sp = 0x7FFE ∧ t.bus.stored (.mem 0x7FFE) = 0x00 ∧ t.bus.stored (.mem 0x7FFF) = 0x02 ∧ t.pc = 0x1234 := by decide
/-- V238. -/
theorem test_v238_int_im0 :
    let t := next (start |> State.setSp 0x8000 |> setIff1 true |> setIff2 true |> State.jump 0x0200 |> driveInt 0xCF)
    t.sp = 0x7FFE ∧ t.iff1 = false ∧ t.iff2 = false ∧ t.pc = 0x0008 ∧ t.r = 0x01 := by decide
/-- V239. -/
theorem test_v239_int_im0_no_rst :
    let s := start |> State.setSp 0x8000 |> setIff1 true |> setIff2 true |> State.jump 0x0200 |> driveInt 0x00
    fault s = some (.invalidOpcode [0x00#8] 0x0200#16 s.bus) := by decide

/-! ### Vectors (95_test_vectors.md 1 and 2), one step each -/

/-- V1 of 95_test_vectors.md, `ADD A,0x01`. -/
theorem test_v1_add_a_0x01 :
    let t := ran [0xC6, 0x01]
      (start |> State.setReg8 .a 0x7F |> State.setFByte 0x00)
    t.main.a = 0x80 ∧ t.pc = 0x0102 ∧ t.r = 0x01 ∧ t.main.f.s = true ∧ t.main.f.z = false ∧ t.main.f.h = true ∧
    t.main.f.pv = true ∧ t.main.f.n = false ∧ t.main.f.c = false := by decide

/-- V5 of 95_test_vectors.md, `CP 0x01`. -/
theorem test_v5_cp_0x01 :
    let t := ran [0xFE, 0x01]
      (start |> State.setReg8 .a 0x00 |> State.setFByte 0x00)
    t.pc = 0x0102 ∧ t.r = 0x01 ∧ t.main.f.s = true ∧ t.main.f.z = false ∧ t.main.f.h = true ∧
    t.main.f.pv = false ∧ t.main.f.n = true ∧ t.main.f.c = true := by decide

/-- V8 of 95_test_vectors.md, `EX AF,AF'`. -/
theorem test_v8_ex_af_af :
    let t := ran [0x08]
      (start |> State.setReg8 .a 0x12 |> State.setFByte 0x34 |> setShadow .a 0x56 |> setShadowF 0x78)
    t.main.a = 0x56 ∧ t.shadow.a = 0x12 ∧ t.shadow.f = Flags.ofByte 0x34 ∧ t.main.f = Flags.ofByte 0x78 ∧
    t.pc = 0x0101 ∧ t.r = 0x01 := by decide

/-- V10 of 95_test_vectors.md, `EXX`. -/
theorem test_v10_exx :
    let t := ran [0xD9]
      (start |> State.setBc 0x1111 |> State.setDe 0x2222 |> State.setHl 0x3333 |> setShadow .b 0x44 |>
      setShadow .c 0x44 |> setShadow .d 0x55 |> setShadow .e 0x55 |> setShadow .h 0x66 |> setShadow .l 0x66)
    t.bc = 0x4444 ∧ t.de = 0x5555 ∧ t.hl = 0x6666 ∧ t.shadow.b = 0x11 ∧ t.shadow.c = 0x11 ∧ t.shadow.d = 0x22 ∧
    t.shadow.e = 0x22 ∧ t.shadow.h = 0x33 ∧ t.shadow.l = 0x33 ∧ t.pc = 0x0101 ∧ t.r = 0x01 := by decide

/-- V12 of 95_test_vectors.md, `LDIR (first step)`. -/
theorem test_v12_ldir_first_step :
    let t := ran [0xED, 0xB0]
      (start |> State.setFByte 0xFF |> State.setBc 0x0003 |> State.setDe 0x9000 |> State.setHl 0x8000 |>
      put 0x8000 [0xA1, 0xB2, 0xC3])
    t.bc = 0x0002 ∧ t.de = 0x9001 ∧ t.hl = 0x8001 ∧ t.pc = 0x0100 ∧ t.r = 0x02 ∧
    t.bus.stored (.mem 0x9000) = 0xA1 ∧ t.main.f.s = true ∧ t.main.f.z = true ∧ t.main.f.h = false ∧
    t.main.f.pv = true ∧ t.main.f.n = false ∧ t.main.f.c = true := by decide

/-- V16 of 95_test_vectors.md, `JP Z,0x0200 (Z = 1)`. -/
theorem test_v16_jp_z_0x0200_z_1 :
    let t := ran [0xCA, 0x00, 0x02]
      (start |> State.setFByte 0x40)
    t.pc = 0x0200 ∧ t.r = 0x01 := by decide

/-- V18 of 95_test_vectors.md, `CALL NZ,0x0200 (Z = 0)`. -/
theorem test_v18_call_nz_0x0200_z_0 :
    let t := ran [0xC4, 0x00, 0x02]
      (start |> State.setFByte 0x00 |> State.setSp 0x8000)
    t.sp = 0x7FFE ∧ t.pc = 0x0200 ∧ t.r = 0x01 ∧ t.bus.stored (.mem 0x7FFE) = 0x03 ∧
    t.bus.stored (.mem 0x7FFF) = 0x01 := by decide

/-- V20 of 95_test_vectors.md, `RET C (C = 1)`. -/
theorem test_v20_ret_c_c_1 :
    let t := ran [0xD8]
      (start |> State.setFByte 0x01 |> State.setSp 0x7FFE |> put 0x7FFE [0x34, 0x12])
    t.sp = 0x8000 ∧ t.pc = 0x1234 ∧ t.r = 0x01 := by decide

/-- V22 of 95_test_vectors.md, `JR NZ,0x0107 (Z = 0)`. -/
theorem test_v22_jr_nz_0x0107_z_0 :
    let t := ran [0x20, 0x05]
      (start |> State.setFByte 0x00)
    t.pc = 0x0107 ∧ t.r = 0x01 := by decide

/-- V26 of 95_test_vectors.md, `LD (IX+5),0x42`. -/
theorem test_v26_ld_ix_5_0x42 :
    let t := ran [0xDD, 0x36, 0x05, 0x42]
      (start |> State.setIndex .ix 0x8000)
    t.pc = 0x0104 ∧ t.r = 0x02 ∧ t.bus.stored (.mem 0x8005) = 0x42 := by decide

/-- V29 of 95_test_vectors.md, `LD A,(IX+5)`. -/
theorem test_v29_ld_a_ix_5 :
    let t := ran [0xDD, 0x7E, 0x05]
      (start |> State.setIndex .ix 0x8000 |> put 0x8005 [0xE7])
    t.main.a = 0xE7 ∧ t.pc = 0x0103 ∧ t.r = 0x02 := by decide

/-- V36 of 95_test_vectors.md, `LD HL,(0xFFFF)`. -/
theorem test_v36_ld_hl_0xffff :
    let t := ran [0x2A, 0xFF, 0xFF]
      (start |> put 0xFFFF [0x34] |> put 0x0000 [0x12])
    t.hl = 0x1234 ∧ t.pc = 0x0103 ∧ t.r = 0x01 := by decide

/-- V37 of 95_test_vectors.md, `LD (0xFFFF),HL`. -/
theorem test_v37_ld_0xffff_hl :
    let t := ran [0x22, 0xFF, 0xFF]
      (start |> State.setHl 0xABCD)
    t.pc = 0x0103 ∧ t.r = 0x01 ∧ t.bus.stored (.mem 0x0000) = 0xAB ∧ t.bus.stored (.mem 0xFFFF) = 0xCD := by decide

/-- V38 of 95_test_vectors.md, `LD A,0x42 (at 0xFFFF)`. -/
theorem test_v38_ld_a_0x42_at_0xffff :
    let t := ran [0x3E, 0x42]
      (start |> State.jump 0xFFFF)
    t.main.a = 0x42 ∧ t.pc = 0x0001 ∧ t.r = 0x01 := by decide

/-- V58 of 95_test_vectors.md, `LD C,(HL)`. -/
theorem test_v58_ld_c_hl :
    let t := ran [0x4E]
      (start |> State.setHl 0x8000 |> put 0x8000 [0xC3])
    t.main.c = 0xC3 ∧ t.pc = 0x0101 ∧ t.r = 0x01 := by decide

/-- V59 of 95_test_vectors.md, `LD (HL),H`. -/
theorem test_v59_ld_hl_h :
    let t := ran [0x74]
      (start |> State.setHl 0x8012)
    t.pc = 0x0101 ∧ t.r = 0x01 ∧ t.bus.stored (.mem 0x8012) = 0x80 := by decide

/-- V61 of 95_test_vectors.md, `LD A,(IX-128)`. -/
theorem test_v61_ld_a_ix_128 :
    let t := ran [0xDD, 0x7E, 0x80]
      (start |> State.setIndex .ix 0x8080 |> put 0x8000 [0x3C])
    t.main.a = 0x3C ∧ t.pc = 0x0103 ∧ t.r = 0x02 := by decide

/-- V62 of 95_test_vectors.md, `LD (IY+127),A`. -/
theorem test_v62_ld_iy_127_a :
    let t := ran [0xFD, 0x77, 0x7F]
      (start |> State.setReg8 .a 0xE1 |> State.setIndex .iy 0x8000)
    t.pc = 0x0103 ∧ t.r = 0x02 ∧ t.bus.stored (.mem 0x807F) = 0xE1 := by decide

/-- V64 of 95_test_vectors.md, `LD A,(BC)`. -/
theorem test_v64_ld_a_bc :
    let t := ran [0x0A]
      (start |> State.setBc 0x8000 |> put 0x8000 [0x17])
    t.main.a = 0x17 ∧ t.pc = 0x0101 ∧ t.r = 0x01 := by decide

/-- V66 of 95_test_vectors.md, `LD (BC),A`. -/
theorem test_v66_ld_bc_a :
    let t := ran [0x02]
      (start |> State.setReg8 .a 0x01 |> State.setBc 0x9000)
    t.pc = 0x0101 ∧ t.r = 0x01 ∧ t.bus.stored (.mem 0x9000) = 0x01 := by decide

/-- V69 of 95_test_vectors.md, `LD (0x8000),A`. -/
theorem test_v69_ld_0x8000_a :
    let t := ran [0x32, 0x00, 0x80]
      (start |> State.setReg8 .a 0x5F)
    t.pc = 0x0103 ∧ t.r = 0x01 ∧ t.bus.stored (.mem 0x8000) = 0x5F := by decide

/-- V70 of 95_test_vectors.md, `LD A,I`. -/
theorem test_v70_ld_a_i :
    let t := ran [0xED, 0x57]
      (start |> State.setFByte 0x01 |> setI 0x00 |> setIff2 true)
    t.main.a = 0x00 ∧ t.pc = 0x0102 ∧ t.r = 0x02 ∧ t.main.f.s = false ∧ t.main.f.z = true ∧
    t.main.f.h = false ∧ t.main.f.pv = true ∧ t.main.f.n = false ∧ t.main.f.c = true := by decide

/-- V72 of 95_test_vectors.md, `LD A,R`. -/
theorem test_v72_ld_a_r :
    let t := ran [0xED, 0x5F]
      (start |> State.setFByte 0x00 |> setR 0x7E |> setIff1 true |> setIff2 true)
    t.main.a = 0x00 ∧ t.pc = 0x0102 ∧ t.r = 0x00 ∧ t.main.f.s = false ∧ t.main.f.z = true ∧
    t.main.f.h = false ∧ t.main.f.pv = true ∧ t.main.f.n = false ∧ t.main.f.c = false := by decide

/-- V74 of 95_test_vectors.md, `LD I,A`. -/
theorem test_v74_ld_i_a :
    let t := ran [0xED, 0x47]
      (start |> State.setReg8 .a 0xFE)
    t.i = 0xFE ∧ t.pc = 0x0102 ∧ t.r = 0x02 := by decide

/-- V75 of 95_test_vectors.md, `LD R,A`. -/
theorem test_v75_ld_r_a :
    let t := ran [0xED, 0x4F]
      (start |> State.setReg8 .a 0x80 |> setR 0x05)
    t.pc = 0x0102 ∧ t.r = 0x80 := by decide

/-- V76 of 95_test_vectors.md, `LD BC,0x1234`. -/
theorem test_v76_ld_bc_0x1234 :
    let t := ran [0x01, 0x34, 0x12]
      (start)
    t.bc = 0x1234 ∧ t.pc = 0x0103 ∧ t.r = 0x01 := by decide

/-- V77 of 95_test_vectors.md, `LD SP,0xFFFF`. -/
theorem test_v77_ld_sp_0xffff :
    let t := ran [0x31, 0xFF, 0xFF]
      (start)
    t.sp = 0xFFFF ∧ t.pc = 0x0103 ∧ t.r = 0x01 := by decide

/-- V78 of 95_test_vectors.md, `LD IX,0x8000`. -/
theorem test_v78_ld_ix_0x8000 :
    let t := ran [0xDD, 0x21, 0x00, 0x80]
      (start)
    t.ix = 0x8000 ∧ t.pc = 0x0104 ∧ t.r = 0x02 := by decide

/-- V79 of 95_test_vectors.md, `LD IY,(0x8000)`. -/
theorem test_v79_ld_iy_0x8000 :
    let t := ran [0xFD, 0x2A, 0x00, 0x80]
      (start |> put 0x8000 [0xCD, 0xAB])
    t.iy = 0xABCD ∧ t.pc = 0x0104 ∧ t.r = 0x02 := by decide

/-- V80 of 95_test_vectors.md, `LD DE,(0x8000)`. -/
theorem test_v80_ld_de_0x8000 :
    let t := ran [0xED, 0x5B, 0x00, 0x80]
      (start |> put 0x8000 [0x01, 0x80])
    t.de = 0x8001 ∧ t.pc = 0x0104 ∧ t.r = 0x02 := by decide

/-- V82 of 95_test_vectors.md, `LD (0x8000),SP`. -/
theorem test_v82_ld_0x8000_sp :
    let t := ran [0xED, 0x73, 0x00, 0x80]
      (start |> State.setSp 0x1FFE)
    t.pc = 0x0104 ∧ t.r = 0x02 ∧ t.bus.stored (.mem 0x8000) = 0xFE ∧ t.bus.stored (.mem 0x8001) = 0x1F := by decide

/-- V84 of 95_test_vectors.md, `LD SP,HL`. -/
theorem test_v84_ld_sp_hl :
    let t := ran [0xF9]
      (start |> State.setHl 0x7000)
    t.sp = 0x7000 ∧ t.pc = 0x0101 ∧ t.r = 0x01 := by decide

/-- V86 of 95_test_vectors.md, `PUSH BC`. -/
theorem test_v86_push_bc :
    let t := ran [0xC5]
      (start |> State.setBc 0x1234 |> State.setSp 0x0000)
    t.sp = 0xFFFE ∧ t.pc = 0x0101 ∧ t.r = 0x01 ∧ t.bus.stored (.mem 0xFFFE) = 0x34 ∧
    t.bus.stored (.mem 0xFFFF) = 0x12 := by decide

/-- V87 of 95_test_vectors.md, `PUSH AF`. -/
theorem test_v87_push_af :
    let t := ran [0xF5]
      (start |> State.setReg8 .a 0x12 |> State.setFByte 0xFF |> State.setSp 0x8000)
    t.sp = 0x7FFE ∧ t.pc = 0x0101 ∧ t.r = 0x01 ∧ t.bus.stored (.mem 0x7FFE) = 0xFF ∧
    t.bus.stored (.mem 0x7FFF) = 0x12 := by decide

/-- V88 of 95_test_vectors.md, `POP AF`. -/
theorem test_v88_pop_af :
    let t := ran [0xF1]
      (start |> State.setSp 0x8000 |> put 0x8000 [0x28, 0x99])
    t.main.a = 0x99 ∧ t.sp = 0x8002 ∧ t.main.f = Flags.ofByte 0x28 ∧ t.pc = 0x0101 ∧ t.r = 0x01 := by decide

/-- V91 of 95_test_vectors.md, `POP IY`. -/
theorem test_v91_pop_iy :
    let t := ran [0xFD, 0xE1]
      (start |> State.setSp 0x7FFE |> put 0x7FFE [0x0D, 0xF0])
    t.iy = 0xF00D ∧ t.sp = 0x8000 ∧ t.pc = 0x0102 ∧ t.r = 0x02 := by decide

/-- V92 of 95_test_vectors.md, `EX DE,HL`. -/
theorem test_v92_ex_de_hl :
    let t := ran [0xEB]
      (start |> State.setDe 0x1111 |> State.setHl 0x2222)
    t.de = 0x2222 ∧ t.hl = 0x1111 ∧ t.pc = 0x0101 ∧ t.r = 0x01 := by decide

/-- V96 of 95_test_vectors.md, `EX (SP),HL`. -/
theorem test_v96_ex_sp_hl :
    let t := ran [0xE3]
      (start |> State.setHl 0x1234 |> State.setSp 0x8000 |> put 0x8000 [0x78, 0x56])
    t.hl = 0x5678 ∧ t.pc = 0x0101 ∧ t.r = 0x01 ∧ t.bus.stored (.mem 0x8000) = 0x34 ∧
    t.bus.stored (.mem 0x8001) = 0x12 := by decide

/-- V97 of 95_test_vectors.md, `EX (SP),IX`. -/
theorem test_v97_ex_sp_ix :
    let t := ran [0xDD, 0xE3]
      (start |> State.setIndex .ix 0xAAAA |> State.setSp 0x8000 |> put 0x8000 [0x55, 0x66])
    t.ix = 0x6655 ∧ t.pc = 0x0102 ∧ t.r = 0x02 ∧ t.bus.stored (.mem 0x8000) = 0xAA ∧
    t.bus.stored (.mem 0x8001) = 0xAA := by decide

/-- V99 of 95_test_vectors.md, `LDI`. -/
theorem test_v99_ldi :
    let t := ran [0xED, 0xA0]
      (start |> State.setFByte 0x00 |> State.setBc 0x0000 |> State.setDe 0x9000 |> State.setHl 0xFFFF |>
      put 0xFFFF [0x01])
    t.bc = 0xFFFF ∧ t.de = 0x9001 ∧ t.hl = 0x0000 ∧ t.pc = 0x0102 ∧ t.r = 0x02 ∧
    t.bus.stored (.mem 0x9000) = 0x01 ∧ t.main.f.s = false ∧ t.main.f.z = false ∧ t.main.f.h = false ∧
    t.main.f.pv = true ∧ t.main.f.n = false ∧ t.main.f.c = false := by decide

/-- V102 of 95_test_vectors.md, `LDD`. -/
theorem test_v102_ldd :
    let t := ran [0xED, 0xA8]
      (start |> State.setFByte 0x00 |> State.setBc 0x0002 |> State.setDe 0x9002 |> State.setHl 0x8002 |>
      put 0x8002 [0x77])
    t.bc = 0x0001 ∧ t.de = 0x9001 ∧ t.hl = 0x8001 ∧ t.pc = 0x0102 ∧ t.r = 0x02 ∧
    t.bus.stored (.mem 0x9002) = 0x77 ∧ t.main.f.s = false ∧ t.main.f.z = false ∧ t.main.f.h = false ∧
    t.main.f.pv = true ∧ t.main.f.n = false ∧ t.main.f.c = false := by decide

/-- V104 of 95_test_vectors.md, `CPI (match)`. -/
theorem test_v104_cpi_match :
    let t := ran [0xED, 0xA1]
      (start |> State.setReg8 .a 0x41 |> State.setFByte 0x00 |> State.setBc 0x0005 |> State.setHl 0x8000 |>
      put 0x8000 [0x41])
    t.bc = 0x0004 ∧ t.hl = 0x8001 ∧ t.pc = 0x0102 ∧ t.r = 0x02 ∧ t.main.f.s = false ∧ t.main.f.z = true ∧
    t.main.f.h = false ∧ t.main.f.pv = true ∧ t.main.f.n = true ∧ t.main.f.c = false := by decide

/-- V105 of 95_test_vectors.md, `CPI (A < byte)`. -/
theorem test_v105_cpi_a_byte :
    let t := ran [0xED, 0xA1]
      (start |> State.setReg8 .a 0x10 |> State.setFByte 0x01 |> State.setBc 0x0001 |> State.setHl 0x8000 |>
      put 0x8000 [0x21])
    t.bc = 0x0000 ∧ t.hl = 0x8001 ∧ t.pc = 0x0102 ∧ t.r = 0x02 ∧ t.main.f.s = true ∧ t.main.f.z = false ∧
    t.main.f.h = true ∧ t.main.f.pv = false ∧ t.main.f.n = true ∧ t.main.f.c = true := by decide

/-- V113 of 95_test_vectors.md, `ADC A,0x00`. -/
theorem test_v113_adc_a_0x00 :
    let t := ran [0xCE, 0x00]
      (start |> State.setReg8 .a 0xFF |> State.setFByte 0x01)
    t.main.a = 0x00 ∧ t.pc = 0x0102 ∧ t.r = 0x01 ∧ t.main.f.s = false ∧ t.main.f.z = true ∧ t.main.f.h = true ∧
    t.main.f.pv = false ∧ t.main.f.n = false ∧ t.main.f.c = true := by decide

/-- V114 of 95_test_vectors.md, `SUB 0x01`. -/
theorem test_v114_sub_0x01 :
    let t := ran [0xD6, 0x01]
      (start |> State.setReg8 .a 0x80 |> State.setFByte 0x00)
    t.main.a = 0x7F ∧ t.pc = 0x0102 ∧ t.r = 0x01 ∧ t.main.f.s = false ∧ t.main.f.z = false ∧
    t.main.f.h = true ∧ t.main.f.pv = true ∧ t.main.f.n = true ∧ t.main.f.c = false := by decide

/-- V117 of 95_test_vectors.md, `SBC A,(HL)`. -/
theorem test_v117_sbc_a_hl :
    let t := ran [0x9E]
      (start |> State.setReg8 .a 0x10 |> State.setFByte 0x01 |> State.setHl 0x8000 |> put 0x8000 [0x0F])
    t.main.a = 0x00 ∧ t.pc = 0x0101 ∧ t.r = 0x01 ∧ t.main.f.s = false ∧ t.main.f.z = true ∧ t.main.f.h = true ∧
    t.main.f.pv = false ∧ t.main.f.n = true ∧ t.main.f.c = false := by decide

/-- V119 of 95_test_vectors.md, `AND 0x81`. -/
theorem test_v119_and_0x81 :
    let t := ran [0xE6, 0x81]
      (start |> State.setReg8 .a 0xFF |> State.setFByte 0x00)
    t.main.a = 0x81 ∧ t.pc = 0x0102 ∧ t.r = 0x01 ∧ t.main.f.s = true ∧ t.main.f.z = false ∧ t.main.f.h = true ∧
    t.main.f.pv = true ∧ t.main.f.n = false ∧ t.main.f.c = false := by decide

/-- V121 of 95_test_vectors.md, `XOR B`. -/
theorem test_v121_xor_b :
    let t := ran [0xA8]
      (start |> State.setReg8 .a 0x81 |> State.setFByte 0x00 |> State.setReg8 .b 0x01)
    t.main.a = 0x80 ∧ t.pc = 0x0101 ∧ t.r = 0x01 ∧ t.main.f.s = true ∧ t.main.f.z = false ∧
    t.main.f.h = false ∧ t.main.f.pv = false ∧ t.main.f.n = false ∧ t.main.f.c = false := by decide

/-- V122 of 95_test_vectors.md, `OR (IX+3)`. -/
theorem test_v122_or_ix_3 :
    let t := ran [0xDD, 0xB6, 0x03]
      (start |> State.setReg8 .a 0x12 |> State.setFByte 0x00 |> State.setIndex .ix 0x8000 |> put 0x8003 [0x21])
    t.main.a = 0x33 ∧ t.pc = 0x0103 ∧ t.r = 0x02 ∧ t.main.f.s = false ∧ t.main.f.z = false ∧
    t.main.f.h = false ∧ t.main.f.pv = true ∧ t.main.f.n = false ∧ t.main.f.c = false := by decide

/-- V125 of 95_test_vectors.md, `CP 0xFF`. -/
theorem test_v125_cp_0xff :
    let t := ran [0xFE, 0xFF]
      (start |> State.setReg8 .a 0x7F |> State.setFByte 0x00)
    t.pc = 0x0102 ∧ t.r = 0x01 ∧ t.main.f.s = true ∧ t.main.f.z = false ∧ t.main.f.h = false ∧
    t.main.f.pv = true ∧ t.main.f.n = true ∧ t.main.f.c = true := by decide

/-- V127 of 95_test_vectors.md, `INC A`. -/
theorem test_v127_inc_a :
    let t := ran [0x3C]
      (start |> State.setReg8 .a 0x7F |> State.setFByte 0x01)
    t.main.a = 0x80 ∧ t.pc = 0x0101 ∧ t.r = 0x01 ∧ t.main.f.s = true ∧ t.main.f.z = false ∧ t.main.f.h = true ∧
    t.main.f.pv = true ∧ t.main.f.n = false ∧ t.main.f.c = true := by decide

/-- V129 of 95_test_vectors.md, `DEC C`. -/
theorem test_v129_dec_c :
    let t := ran [0x0D]
      (start |> State.setFByte 0x00 |> State.setReg8 .c 0x80)
    t.main.c = 0x7F ∧ t.pc = 0x0101 ∧ t.r = 0x01 ∧ t.main.f.s = false ∧ t.main.f.z = false ∧
    t.main.f.h = true ∧ t.main.f.pv = true ∧ t.main.f.n = true ∧ t.main.f.c = false := by decide

/-- V132 of 95_test_vectors.md, `DEC (IX-1)`. -/
theorem test_v132_dec_ix_1 :
    let t := ran [0xDD, 0x35, 0xFF]
      (start |> State.setFByte 0x00 |> State.setIndex .ix 0x8001 |> put 0x8000 [0x01])
    t.pc = 0x0103 ∧ t.r = 0x02 ∧ t.bus.stored (.mem 0x8000) = 0x00 ∧ t.main.f.s = false ∧ t.main.f.z = true ∧
    t.main.f.h = false ∧ t.main.f.pv = false ∧ t.main.f.n = true ∧ t.main.f.c = false := by decide

/-- V137 of 95_test_vectors.md, `DAA (after SUB 0x42 − 0x15)`. -/
theorem test_v137_daa_after_sub_0x42_0x15 :
    let t := ran [0x27]
      (start |> State.setReg8 .a 0x2D |> State.setFByte 0x12)
    t.main.a = 0x27 ∧ t.pc = 0x0101 ∧ t.r = 0x01 ∧ t.main.f.s = false ∧ t.main.f.z = false ∧
    t.main.f.h = false ∧ t.main.f.pv = true ∧ t.main.f.n = true ∧ t.main.f.c = false := by decide

/-- V138 of 95_test_vectors.md, `DAA (after SUB 0x10 − 0x20)`. -/
theorem test_v138_daa_after_sub_0x10_0x20 :
    let t := ran [0x27]
      (start |> State.setReg8 .a 0xF0 |> State.setFByte 0x03)
    t.main.a = 0x90 ∧ t.pc = 0x0101 ∧ t.r = 0x01 ∧ t.main.f.s = true ∧ t.main.f.z = false ∧
    t.main.f.h = false ∧ t.main.f.pv = true ∧ t.main.f.n = true ∧ t.main.f.c = true := by decide

/-- V139 of 95_test_vectors.md, `CPL`. -/
theorem test_v139_cpl :
    let t := ran [0x2F]
      (start |> State.setReg8 .a 0x5A |> State.setFByte 0x00)
    t.main.a = 0xA5 ∧ t.pc = 0x0101 ∧ t.r = 0x01 ∧ t.main.f.s = false ∧ t.main.f.z = false ∧
    t.main.f.h = true ∧ t.main.f.pv = false ∧ t.main.f.n = true ∧ t.main.f.c = false := by decide

/-- V141 of 95_test_vectors.md, `NEG`. -/
theorem test_v141_neg :
    let t := ran [0xED, 0x44]
      (start |> State.setReg8 .a 0x80 |> State.setFByte 0x00)
    t.pc = 0x0102 ∧ t.r = 0x02 ∧ t.main.f.s = true ∧ t.main.f.z = false ∧ t.main.f.h = false ∧
    t.main.f.pv = true ∧ t.main.f.n = true ∧ t.main.f.c = true := by decide

/-- V144 of 95_test_vectors.md, `CCF`. -/
theorem test_v144_ccf :
    let t := ran [0x3F]
      (start |> State.setFByte 0x12)
    t.pc = 0x0101 ∧ t.r = 0x01 ∧ t.main.f.s = false ∧ t.main.f.z = false ∧ t.main.f.h = false ∧
    t.main.f.pv = false ∧ t.main.f.n = false ∧ t.main.f.c = true := by decide

/-- V145 of 95_test_vectors.md, `SCF`. -/
theorem test_v145_scf :
    let t := ran [0x37]
      (start |> State.setFByte 0xD6)
    t.pc = 0x0101 ∧ t.r = 0x01 ∧ t.main.f.s = true ∧ t.main.f.z = true ∧ t.main.f.h = false ∧
    t.main.f.pv = true ∧ t.main.f.n = false ∧ t.main.f.c = true := by decide

/-- V147 of 95_test_vectors.md, `HALT`. -/
theorem test_v147_halt :
    let t := ran [0x76]
      (start)
    t.pc = 0x0101 ∧ t.r = 0x01 ∧ t.halted = true := by decide

/-- V149 of 95_test_vectors.md, `DI`. -/
theorem test_v149_di :
    let t := ran [0xF3]
      (start |> setIff1 true |> setIff2 true)
    t.iff1 = false ∧ t.iff2 = false ∧ t.pc = 0x0101 ∧ t.r = 0x01 := by decide

/-- V150 of 95_test_vectors.md, `EI`. -/
theorem test_v150_ei :
    let t := ran [0xFB]
      (start)
    t.iff1 = true ∧ t.iff2 = true ∧ t.pc = 0x0101 ∧ t.r = 0x01 := by decide

/-- V153 of 95_test_vectors.md, `IM 2`. -/
theorem test_v153_im_2 :
    let t := ran [0xED, 0x5E]
      (start)
    t.im = .im2 ∧ t.pc = 0x0102 ∧ t.r = 0x02 := by decide

/-- V154 of 95_test_vectors.md, `ADD HL,BC`. -/
theorem test_v154_add_hl_bc :
    let t := ran [0x09]
      (start |> State.setFByte 0xC4 |> State.setBc 0x0001 |> State.setHl 0x0FFF)
    t.hl = 0x1000 ∧ t.pc = 0x0101 ∧ t.r = 0x01 ∧ t.main.f.s = true ∧ t.main.f.z = true ∧ t.main.f.h = true ∧
    t.main.f.pv = true ∧ t.main.f.n = false ∧ t.main.f.c = false := by decide

/-- V159 of 95_test_vectors.md, `ADC HL,SP`. -/
theorem test_v159_adc_hl_sp :
    let t := ran [0xED, 0x7A]
      (start |> State.setFByte 0x01 |> State.setHl 0xFFFF |> State.setSp 0x0000)
    t.hl = 0x0000 ∧ t.pc = 0x0102 ∧ t.r = 0x02 ∧ t.main.f.s = false ∧ t.main.f.z = true ∧ t.main.f.h = true ∧
    t.main.f.pv = false ∧ t.main.f.n = false ∧ t.main.f.c = true := by decide

/-- V162 of 95_test_vectors.md, `SBC HL,BC`. -/
theorem test_v162_sbc_hl_bc :
    let t := ran [0xED, 0x42]
      (start |> State.setFByte 0x00 |> State.setBc 0x0001 |> State.setHl 0x8000)
    t.hl = 0x7FFF ∧ t.pc = 0x0102 ∧ t.r = 0x02 ∧ t.main.f.s = false ∧ t.main.f.z = false ∧ t.main.f.h = true ∧
    t.main.f.pv = true ∧ t.main.f.n = true ∧ t.main.f.c = false := by decide

/-- V163 of 95_test_vectors.md, `ADD IX,IX`. -/
theorem test_v163_add_ix_ix :
    let t := ran [0xDD, 0x29]
      (start |> State.setFByte 0x00 |> State.setIndex .ix 0x4000)
    t.ix = 0x8000 ∧ t.pc = 0x0102 ∧ t.r = 0x02 ∧ t.main.f.s = false ∧ t.main.f.z = false ∧ t.main.f.h = false ∧
    t.main.f.pv = false ∧ t.main.f.n = false ∧ t.main.f.c = false := by decide

/-- V165 of 95_test_vectors.md, `ADD IX,DE`. -/
theorem test_v165_add_ix_de :
    let t := ran [0xDD, 0x19]
      (start |> State.setFByte 0x01 |> State.setDe 0x0800 |> State.setIndex .ix 0x0800)
    t.ix = 0x1000 ∧ t.pc = 0x0102 ∧ t.r = 0x02 ∧ t.main.f.s = false ∧ t.main.f.z = false ∧ t.main.f.h = true ∧
    t.main.f.pv = false ∧ t.main.f.n = false ∧ t.main.f.c = false := by decide

/-- V166 of 95_test_vectors.md, `INC BC`. -/
theorem test_v166_inc_bc :
    let t := ran [0x03]
      (start |> State.setFByte 0x00 |> State.setBc 0xFFFF)
    t.bc = 0x0000 ∧ t.pc = 0x0101 ∧ t.r = 0x01 := by decide

/-- V169 of 95_test_vectors.md, `DEC IY`. -/
theorem test_v169_dec_iy :
    let t := ran [0xFD, 0x2B]
      (start |> State.setIndex .iy 0x0100)
    t.iy = 0x00FF ∧ t.pc = 0x0102 ∧ t.r = 0x02 := by decide

/-- V170 of 95_test_vectors.md, `RLCA`. -/
theorem test_v170_rlca :
    let t := ran [0x07]
      (start |> State.setReg8 .a 0x81 |> State.setFByte 0xC4)
    t.main.a = 0x03 ∧ t.pc = 0x0101 ∧ t.r = 0x01 ∧ t.main.f.s = true ∧ t.main.f.z = true ∧ t.main.f.h = false ∧
    t.main.f.pv = true ∧ t.main.f.n = false ∧ t.main.f.c = true := by decide

/-- V173 of 95_test_vectors.md, `RRA`. -/
theorem test_v173_rra :
    let t := ran [0x1F]
      (start |> State.setReg8 .a 0x01 |> State.setFByte 0x01)
    t.main.a = 0x80 ∧ t.pc = 0x0101 ∧ t.r = 0x01 ∧ t.main.f.s = false ∧ t.main.f.z = false ∧
    t.main.f.h = false ∧ t.main.f.pv = false ∧ t.main.f.n = false ∧ t.main.f.c = true := by decide

/-- V176 of 95_test_vectors.md, `RL (HL)`. -/
theorem test_v176_rl_hl :
    let t := ran [0xCB, 0x16]
      (start |> State.setFByte 0x01 |> State.setHl 0x8000 |> put 0x8000 [0x7F])
    t.pc = 0x0102 ∧ t.r = 0x02 ∧ t.bus.stored (.mem 0x8000) = 0xFF ∧ t.main.f.s = true ∧ t.main.f.z = false ∧
    t.main.f.h = false ∧ t.main.f.pv = true ∧ t.main.f.n = false ∧ t.main.f.c = false := by decide

/-- V179 of 95_test_vectors.md, `SRA A`. -/
theorem test_v179_sra_a :
    let t := ran [0xCB, 0x2F]
      (start |> State.setReg8 .a 0x81 |> State.setFByte 0x00)
    t.main.a = 0xC0 ∧ t.pc = 0x0102 ∧ t.r = 0x02 ∧ t.main.f.s = true ∧ t.main.f.z = false ∧
    t.main.f.h = false ∧ t.main.f.pv = true ∧ t.main.f.n = false ∧ t.main.f.c = true := by decide

/-- V182 of 95_test_vectors.md, `SRL (IY-1)`. -/
theorem test_v182_srl_iy_1 :
    let t := ran [0xFD, 0xCB, 0xFF, 0x3E]
      (start |> State.setFByte 0x00 |> State.setIndex .iy 0x8001 |> put 0x8000 [0xFF])
    t.pc = 0x0104 ∧ t.r = 0x02 ∧ t.bus.stored (.mem 0x8000) = 0x7F ∧ t.main.f.s = false ∧ t.main.f.z = false ∧
    t.main.f.h = false ∧ t.main.f.pv = false ∧ t.main.f.n = false ∧ t.main.f.c = true := by decide

/-- V183 of 95_test_vectors.md, `RLD`. -/
theorem test_v183_rld :
    let t := ran [0xED, 0x6F]
      (start |> State.setReg8 .a 0x12 |> State.setFByte 0x01 |> State.setHl 0x8000 |> put 0x8000 [0x34])
    t.main.a = 0x13 ∧ t.pc = 0x0102 ∧ t.r = 0x02 ∧ t.bus.stored (.mem 0x8000) = 0x42 ∧ t.main.f.s = false ∧
    t.main.f.z = false ∧ t.main.f.h = false ∧ t.main.f.pv = false ∧ t.main.f.n = false ∧ t.main.f.c = true := by decide

/-- V184 of 95_test_vectors.md, `RRD`. -/
theorem test_v184_rrd :
    let t := ran [0xED, 0x67]
      (start |> State.setReg8 .a 0x12 |> State.setFByte 0x00 |> State.setHl 0x8000 |> put 0x8000 [0x34])
    t.main.a = 0x14 ∧ t.pc = 0x0102 ∧ t.r = 0x02 ∧ t.bus.stored (.mem 0x8000) = 0x23 ∧ t.main.f.s = false ∧
    t.main.f.z = false ∧ t.main.f.h = false ∧ t.main.f.pv = true ∧ t.main.f.n = false ∧ t.main.f.c = false := by decide

/-- V187 of 95_test_vectors.md, `BIT 0,(HL)`. -/
theorem test_v187_bit_0_hl :
    let t := ran [0xCB, 0x46]
      (start |> State.setFByte 0x00 |> State.setHl 0x8000 |> put 0x8000 [0xFE])
    t.pc = 0x0102 ∧ t.r = 0x02 ∧ t.main.f.z = true ∧ t.main.f.h = true ∧ t.main.f.n = false ∧ t.main.f.c = false := by decide

/-- V189 of 95_test_vectors.md, `SET 7,(HL)`. -/
theorem test_v189_set_7_hl :
    let t := ran [0xCB, 0xFE]
      (start |> State.setHl 0x8000 |> put 0x8000 [0x00])
    t.pc = 0x0102 ∧ t.r = 0x02 ∧ t.bus.stored (.mem 0x8000) = 0x80 := by decide

/-- V193 of 95_test_vectors.md, `RES 7,(IY+127)`. -/
theorem test_v193_res_7_iy_127 :
    let t := ran [0xFD, 0xCB, 0x7F, 0xBE]
      (start |> State.setIndex .iy 0x8000 |> put 0x807F [0xFF])
    t.pc = 0x0104 ∧ t.r = 0x02 ∧ t.bus.stored (.mem 0x807F) = 0x7F := by decide

/-- V197 of 95_test_vectors.md, `JP PO,0x1234 (P/V = 0: taken)`. -/
theorem test_v197_jp_po_0x1234_p_v_0_taken :
    let t := ran [0xE2, 0x34, 0x12]
      (start |> State.setFByte 0x00)
    t.pc = 0x1234 ∧ t.r = 0x01 := by decide

/-- V201 of 95_test_vectors.md, `JR 0xFFFF (from 0x0000)`. -/
theorem test_v201_jr_0xffff_from_0x0000 :
    let t := ran [0x18, 0xFD]
      (start |> State.jump 0x0000)
    t.pc = 0xFFFF ∧ t.r = 0x01 := by decide

/-- V205 of 95_test_vectors.md, `JP (HL)`. -/
theorem test_v205_jp_hl :
    let t := ran [0xE9]
      (start |> State.setHl 0x4321)
    t.pc = 0x4321 ∧ t.r = 0x01 := by decide

/-- V207 of 95_test_vectors.md, `DJNZ 0x00F0 (B = 2: taken)`. -/
theorem test_v207_djnz_0x00f0_b_2_taken :
    let t := ran [0x10, 0xEE]
      (start |> State.setReg8 .b 0x02)
    t.main.b = 0x01 ∧ t.pc = 0x00F0 ∧ t.r = 0x01 := by decide

/-- V209 of 95_test_vectors.md, `DJNZ 0x00F0 (B = 0: taken, B = 0xFF)`. -/
theorem test_v209_djnz_0x00f0_b_0_taken_b_0xff :
    let t := ran [0x10, 0xEE]
      (start |> State.setReg8 .b 0x00)
    t.main.b = 0xFF ∧ t.pc = 0x00F0 ∧ t.r = 0x01 := by decide

/-- V210 of 95_test_vectors.md, `CALL 0x2000`. -/
theorem test_v210_call_0x2000 :
    let t := ran [0xCD, 0x00, 0x20]
      (start |> State.setSp 0x8000)
    t.sp = 0x7FFE ∧ t.pc = 0x2000 ∧ t.r = 0x01 ∧ t.bus.stored (.mem 0x7FFE) = 0x03 ∧
    t.bus.stored (.mem 0x7FFF) = 0x01 := by decide

/-- V212 of 95_test_vectors.md, `CALL PE,0x2000 (taken)`. -/
theorem test_v212_call_pe_0x2000_taken :
    let t := ran [0xEC, 0x00, 0x20]
      (start |> State.setFByte 0x04 |> State.setSp 0x8000)
    t.sp = 0x7FFE ∧ t.pc = 0x2000 ∧ t.r = 0x01 ∧ t.bus.stored (.mem 0x7FFE) = 0x03 ∧
    t.bus.stored (.mem 0x7FFF) = 0x01 := by decide

/-- V216 of 95_test_vectors.md, `RETI`. -/
theorem test_v216_reti :
    let t := ran [0xED, 0x4D]
      (start |> State.setSp 0x7FFE |> setIff1 false |> setIff2 true |> put 0x7FFE [0x34, 0x12])
    t.sp = 0x8000 ∧ t.iff1 = true ∧ t.pc = 0x1234 ∧ t.r = 0x02 := by decide

/-- V217 of 95_test_vectors.md, `RETN`. -/
theorem test_v217_retn :
    let t := ran [0xED, 0x45]
      (start |> State.setSp 0x7FFE |> setIff1 false |> setIff2 false |> put 0x7FFE [0x34, 0x12])
    t.sp = 0x8000 ∧ t.pc = 0x1234 ∧ t.r = 0x02 := by decide

/-- V218 of 95_test_vectors.md, `RST 0x38`. -/
theorem test_v218_rst_0x38 :
    let t := ran [0xFF]
      (start |> State.setSp 0x8000)
    t.sp = 0x7FFE ∧ t.pc = 0x0038 ∧ t.r = 0x01 ∧ t.bus.stored (.mem 0x7FFE) = 0x01 ∧
    t.bus.stored (.mem 0x7FFF) = 0x01 := by decide

/-- V223 of 95_test_vectors.md, `OUT (0x10),A`. -/
theorem test_v223_out_0x10_a :
    let t := ran [0xD3, 0x10]
      (start |> State.setReg8 .a 0x55)
    t.pc = 0x0102 ∧ t.r = 0x01 ∧ t.bus.log = [.write (.io 0x10) 0x55] := by decide

/-- V229 of 95_test_vectors.md, `OUTI`. -/
theorem test_v229_outi :
    let t := ran [0xED, 0xA3]
      (start |> State.setFByte 0x00 |> State.setReg8 .b 0x01 |> State.setReg8 .c 0x30 |> State.setHl 0x8000 |>
      put 0x8000 [0x5A])
    t.main.b = 0x00 ∧ t.hl = 0x8001 ∧ t.pc = 0x0102 ∧ t.r = 0x02 ∧ t.bus.log = [.write (.io 0x30) 0x5A] ∧
    t.main.f.z = true := by decide

/-- V232 of 95_test_vectors.md, `OTDR (one step of two)`. -/
theorem test_v232_otdr_one_step_of_two :
    let t := ran [0xED, 0xBB]
      (start |> State.setFByte 0x00 |> State.setReg8 .b 0x02 |> State.setReg8 .c 0x30 |> State.setHl 0x8001 |>
      put 0x8001 [0x99])
    t.main.b = 0x01 ∧ t.hl = 0x8000 ∧ t.pc = 0x0100 ∧ t.r = 0x02 ∧ t.bus.log = [.write (.io 0x30) 0x99] ∧
    t.main.f.z = false := by decide

/-! ### Witnesses: for every statement with hypotheses, a state and operands that meet them, clause by clause -/

/-- A state to run from: everything written, SP and HL in the middle of memory. -/
def ready : State :=
  { start |> State.setAf 0x1234 |> State.setBc 0x0203 |> State.setDe 0x9000 |> State.setHl 0x8000 |> State.setSp 0x7000 |>
    State.setIndex .ix 0x6000 |> State.setIndex .iy 0x5000 with eiShadow := false }

/-- `ready` with memory that ends just above 0x6000. -/
def edge : State := memUpTo 0x6001 true ready

theorem witness_encodeThenDecode : (Instr.ldMemIxN (-128) 0xFF#8).wf = true ∧ (Instr.djnzE 127).wf = true ∧
    (Instr.set7MemIy 127).wf = true ∧ (Instr.callMNn 0xFFFF#16).wf = true := by decide

theorem witness_decodeThenEncode :
    decode [0xDD#8, 0x36#8, 0x80#8, 0xFF#8, 0x00#8] = .done (.ldMemIxN (-128) 0xFF#8) 4 := by decide

theorem witness_lengthFromTwoBytes : decode [0xFD#8, 0xCB#8, 0x7F#8, 0xFE#8] = .done (.set7MemIy 127) 4 ∧
    decode [0x00#8, 0xFF#8] = .done .nop 1 := by decide

theorem witness_rejectedEncodings : ((0xFF#8 : Byte) ≠ 0xCB#8 ∧ (0xFF#8 : Byte) ≠ 0xDD#8 ∧ (0xFF#8 : Byte) ≠ 0xED#8 ∧
      (0xFF#8 : Byte) ≠ 0xFD#8) ∧
    decode [0xCB#8, 0x30#8] = .invalidOpcode [0xCB#8, 0x30#8] ∧ decode [0xCB#8, 0x37#8] = .invalidOpcode [0xCB#8, 0x37#8] ∧
    decode [0xCB#8, 0x2F#8] = .done .sraA 2 ∧ decode [0xCB#8, 0x38#8] = .done .srlB 2 ∧
    decode [0xED#8, 0x70#8] = .invalidOpcode [0xED#8, 0x70#8] ∧ decode [0xED#8, 0xBB#8] = .done .otdr 2 ∧
    decode [0xFD#8, 0xFD#8] = .invalidOpcode [0xFD#8, 0xFD#8] ∧ decode [0xFD#8, 0xF9#8] = .done .ldSpIy 2 ∧
    decode [0xDD#8, 0xCB#8, 0x00#8, 0x36#8] = .invalidOpcode [0xDD#8, 0xCB#8, 0x00#8, 0x36#8] ∧
    decode [0xDD#8, 0xCB#8, 0x00#8, 0x3E#8] = .done (.srlMemIx 0) 4 := by decide

theorem witness_stepRuns : Running (put 0x0100 [0xDD, 0x36, 0x80, 0xFF] ready) ∧ (Instr.ldMemIxN (-128) 0xFF#8).wf = true ∧
    decode [0xDD#8, 0x36#8, 0x80#8, 0xFF#8] = .done (.ldMemIxN (-128) 0xFF#8) 4 ∧
    (put 0x0100 [0xDD, 0x36, 0x80, 0xFF] ready).holdsAt 0x0100#16 [0xDD#8, 0x36#8, 0x80#8, 0xFF#8] = true := by
  unfold Running; decide

theorem witness_fetchStops_invalid : Running (put 0x0100 [0xED, 0x70] ready) ∧
    (put 0x0100 [0xED, 0x70] ready).holdsAt 0x0100#16 [0xED#8, 0x70#8] = true ∧
    decode [0xED#8, 0x70#8] = .invalidOpcode [0xED#8, 0x70#8] := by
  unfold Running; decide

theorem witness_fetchStops_busError : Running (memUpTo 0x0100 true ready) ∧
    (memUpTo 0x0100 true ready).holdsAt 0x0100#16 [] = true ∧ decode [] = .more ∧
    (memUpTo 0x0100 true ready).bus.readError (.mem (0x0100#16 + BitVec.ofNat 16 0)) = some .unmapped := by
  unfold Running; decide

theorem witness_fetchStops_busError_inside :
    let s := memUpTo 0x0101 true (put 0x0100 [0xDD] ready)
    Running s ∧ s.holdsAt 0x0100#16 [0xDD#8] = true ∧ decode [0xDD#8] = .more ∧
      s.bus.readError (.mem (0x0100#16 + BitVec.ofNat 16 1)) = some .unmapped := by
  unfold Running; decide

theorem witness_faulted :
    (ready.afterFault (.invalidOpcode [0xDD#8, 0x00#8] 0x0100#16 ready.bus)).fault =
      some { failure := .invalidOpcode [0xDD#8, 0x00#8], pc0 := 0x0100#16 } := by decide

theorem witness_halted :
    let s := { setHalted ready with lines := { ready.lines with nmiSource := false } }
    s.fault = none ∧ s.halted = true ∧ s.iff1 = false ∧ s.lines.nmiSource = false := by decide

theorem witness_completes : firstError ready.bus (accesses (Instr.exMemSpHl).family ready) = none ∧
    firstError (memUpTo 0x7001 true ready).bus (accesses (Instr.exMemSpHl).family (memUpTo 0x7001 true ready)) =
      some (.unmapped, .mem 0x7001#16) ∧
    served (memUpTo 0x7001 true ready).bus (accesses (Instr.exMemSpHl).family (memUpTo 0x7001 true ready)) =
      [.read (.mem 0x7000#16)] := by decide

theorem witness_nmi :
    let s := signalNmi (setEiShadow ready)
    s.fault = none ∧ s.boundaryUsed = false ∧ s.lines.nmiPending = true ∧ s.lines.nmiSource = true ∧
      s.bus.writeError (.mem (s.sp - 2)) = none ∧ s.bus.writeError (.mem (s.sp - 2 + 1)) = none := by decide

/-- Memory that ends below the push, and between its two bytes. -/
theorem witness_push_fails :
    (memUpTo 0x6FFE true ready).bus.writeError (.mem (ready.sp - 2)) = some .unmapped ∧
    (memUpTo 0x6FFF true ready).bus.writeError (.mem (ready.sp - 2)) = none ∧
    (memUpTo 0x6FFF true ready).bus.writeError (.mem (ready.sp - 2 + 1)) = some .unmapped := by decide

/-- The hypotheses of the statement on INT acceptance. -/
def intReady (s : State) : Bool :=
  s.fault == none && !s.boundaryUsed && s.lines.intLine && s.lines.intSource && s.iff1 && !s.eiShadow &&
    !(s.lines.nmiPending && s.lines.nmiSource) && s.bus.writeError (.mem (s.sp - 2)) == none &&
    s.bus.writeError (.mem (s.sp - 2 + 1)) == none

theorem witness_int_im0 : intReady (driveInt 0xC7 (setIff1 true ready)) = true ∧ (driveInt 0xC7 (setIff1 true ready)).im = .im0 ∧
    (0xC7#8 : Byte).toNat / 64 = 3 ∧ (0xC7#8 : Byte).toNat % 8 = 7 ∧ intReady (driveInt 0xFF (setIff1 true ready)) = true ∧
    (0xFF#8 : Byte).toNat / 64 = 3 ∧ (0xFF#8 : Byte).toNat % 8 = 7 := by decide

theorem witness_int_im1 : intReady (setIm .im1 (driveInt 0x00 (setIff1 true ready))) = true ∧
    (setIm .im1 (driveInt 0x00 (setIff1 true ready))).im = .im1 := by decide

theorem witness_int_im2 :
    let s := setIm .im2 (driveInt 0xFF (setI 0xFF (setIff1 true ready)))
    intReady s = true ∧ s.im = .im2 ∧ s.bus.readError (.mem (cat s.i s.lines.intData)) = none ∧
      s.bus.readError (.mem (cat s.i s.lines.intData + 1)) = none := by decide

/-- Memory that ends below the vector, and between its two bytes. -/
theorem witness_int_im2_fails :
    let s := fun high => memUpTo high true (setIm .im2 (driveInt 0x10 (setI 0x80 (setIff1 true ready))))
    intReady (s 0x8010) = true ∧ (s 0x8010).bus.readError (.mem 0x8010#16) = some .unmapped ∧
      intReady (s 0x8011) = true ∧ (s 0x8011).bus.readError (.mem 0x8010#16) = none ∧
      (s 0x8011).bus.readError (.mem 0x8011#16) = some .unmapped ∧ cat 0x80#8 0x10#8 = 0x8010#16 := by decide

theorem witness_interruptRefused : ready.fault = none ∧ (ready.lines.nmiPending && ready.lines.nmiSource) = false ∧
    (next (signalNmi ready)).boundaryUsed = true ∧ (next (signalNmi ready)).fault = none ∧
    ready.lines.intLine = false ∧ (driveInt 0xC7 ready).iff1 = false ∧ (driveInt 0xC7 ready).lines.intLine = true ∧
    (setEiShadow (driveInt 0xC7 (setIff1 true ready))).eiShadow = true ∧
    ({ ready with lines := { ready.lines with intSource := false } } : State).lines.intSource = false := by decide

theorem witness_interruptRefused_no_rst :
    let s := driveInt 0xC6 (setIff1 true ready)
    intReady s = true ∧ s.im = .im0 ∧ ¬ (s.lines.intData.toNat / 64 = 3 ∧ s.lines.intData.toNat % 8 = 7) := by decide

theorem witness_oneAcceptance : ready.fault = none ∧ nmiDue (signalNmi ready) = true ∧
    (∃ t, acceptInterrupt (signalNmi ready) = .next t) ∧ intDue (driveInt 0xC7 (setIff1 true ready)) = true ∧
    (∃ t, acceptInterrupt (driveInt 0xC7 (setIff1 true ready)) = .next t) ∧ ∃ v, engineCall (next (signalNmi ready)) = .next v :=
  ⟨rfl, rfl, ⟨_, rfl⟩, rfl, ⟨_, rfl⟩, _, rfl⟩

/-- A second NMI at the boundary of an acceptance waits for the handler's first instruction (R519). -/
theorem test_second_nmi_waits :
    let s := signalNmi (next (signalNmi (put 0x0066 [0x00] ready)))
    s.pc = 0x0066#16 ∧ acceptInterrupt s = .next s ∧ (next s).pc = 0x0067#16 ∧ nmiDue (next s) = true :=
  ⟨by decide, rfl, by decide, by decide⟩

/-- So does an INT that the host enables there by writing IFF1 (R519, R530). -/
theorem test_int_enabled_at_the_boundary_waits :
    let s := setIff1 true (next (setIm .im1 (driveInt 0x00 (setIff1 true (put 0x0038 [0x00] ready)))))
    s.pc = 0x0038#16 ∧ (next s).pc = 0x0039#16 ∧ intDue (next s) = true := by decide

theorem witness_canonical : ready.canonical = true ∧ State.reset.canonical = true ∧
    (put 0xFFFF [0x77, 0x66] ready).canonical = true ∧ ∃ t, step State.reset = .next t := ⟨by decide, by decide, by decide, _, rfl⟩

theorem witness_haltOutsideShadow : ready.fault = none ∧ (ready.halted = true → ready.eiShadow = false) ∧
    ((setHalted ready).halted = true → (setHalted ready).eiShadow = false) ∧ (∃ t, step (setHalted ready) = .next t) ∧
    ∃ t, step (put 0x0100 [0x76] ready) = .next t := ⟨rfl, by decide, by decide, ⟨_, rfl⟩, _, rfl⟩

theorem witness_refresh : Running (put 0x0100 [0xDD, 0xE9] ready) ∧
    (∃ s1, fetch (put 0x0100 [0xDD, 0xE9] ready) = .next ((.jpIx, [0xDD#8, 0xE9#8]), s1)) ∧
    (∃ t, step (put 0x0100 [0xDD, 0xE9] ready) = .next t) ∧ Instr.jpIx ≠ .ldRA :=
  ⟨⟨rfl, rfl, rfl, rfl⟩, ⟨_, rfl⟩, ⟨_, rfl⟩, by decide⟩

theorem witness_refresh_bit7 : (next (put 0x0100 [0xED, 0x4F] (State.setReg8 .a 0x80 ready))).r = 0x80#8 ∧
    ready.r = 0x00#8 ∧ ∃ t, step (put 0x0100 [0xED, 0x4F] (State.setReg8 .a 0x80 ready)) = .next t :=
  ⟨by decide, by decide, _, rfl⟩

theorem witness_writers : (∃ t, exec .nop ready = .next t) ∧ (∃ t, exec .ldIA ready = .next t) ∧
    (∃ t, exec .retn ready = .next t) ∧ ∃ t, exec .halt ready = .next t := ⟨⟨_, rfl⟩, ⟨_, rfl⟩, ⟨_, rfl⟩, _, rfl⟩

theorem witness_shadow_and_marks : Instr.popAf ≠ .exAfAf ∧ Instr.popAf ≠ .exx ∧ Instr.popAf ≠ .exDeHl ∧
    (∃ t, exec .popAf ready = .next t) ∧ Marked.flag 5 ∈ writesOf (Instr.popAf).family ready ∧
    Marked.reg .b ∉ writesOf (Instr.popAf).family ready ∧ (∃ t, exec .exDeHl ready = .next t) ∧
    (∃ t, exec .exAfAf ready = .next t) ∧ ∃ t, exec .exx ready = .next t :=
  ⟨by decide, by decide, by decide, ⟨_, rfl⟩, by decide, by decide, ⟨_, rfl⟩, ⟨_, rfl⟩, _, rfl⟩

theorem witness_eiShadow : Running (put 0x0100 [0xFB] ready) ∧ Running (put 0x0100 [0x00] (setEiShadow ready)) ∧
    (∃ s1, fetch (put 0x0100 [0xFB] ready) = .next ((.ei, [0xFB#8]), s1)) ∧
    (∃ t, step (put 0x0100 [0xFB] ready) = .next t) ∧
    ∃ t, step (put 0x0100 [0x00] (setEiShadow ready)) = .next t :=
  ⟨⟨rfl, rfl, rfl, rfl⟩, ⟨rfl, rfl, rfl, rfl⟩, ⟨_, rfl⟩, ⟨_, rfl⟩, _, rfl⟩

theorem witness_allWritten : ready.allWritten :=
  ⟨fun r => by cases r <;> rfl, rfl, rfl, rfl, rfl⟩

/-- LDI with HL alone written: it reads the byte at HL, then stops at D. -/
theorem witness_strict_stops :
    let s := put 0x0100 [0xED, 0xA0] (State.setHl 0x8000 start)
    Running s ∧ (∃ s1, fetch s = .next ((.ldi, [0xED#8, 0xA0#8]), s1)) ∧
      firstUnwritten (s.begin [0xED#8, 0xA0#8]) (order (Instr.ldi).family (s.begin [0xED#8, 0xA0#8])) =
        some (.reg .d, [.read (.mem 0x8000#16)]) :=
  ⟨⟨rfl, rfl, rfl, rfl⟩, ⟨_, rfl⟩, rfl⟩

/-- LDI with HL at an address in no region: the access fails before DE is read. -/
theorem witness_strict_agrees :
    let s := memUpTo 0x8000 true (put 0x0100 [0xED, 0xA0] (State.setHl 0x8000 start))
    Running s ∧ (∃ s1, fetch s = .next ((.ldi, [0xED#8, 0xA0#8]), s1)) ∧
      firstUnwritten (s.begin [0xED#8, 0xA0#8]) (order (Instr.ldi).family (s.begin [0xED#8, 0xA0#8])) = none :=
  ⟨⟨rfl, rfl, rfl, rfl⟩, ⟨_, rfl⟩, rfl⟩

theorem witness_strict_fetch_fails : Running (put 0x0100 [0xED, 0x70] start) ∧
    ∃ r, fetch (put 0x0100 [0xED, 0x70] start) = .fault r := ⟨⟨rfl, rfl, rfl, rfl⟩, _, rfl⟩

theorem witness_strict_acceptance : start.fault = none ∧ start.written.sp = false ∧ nmiDue (signalNmi start) = true ∧
    (signalNmi start).written.sp = false ∧ ready.written.sp = true ∧ nmiDue (signalNmi ready) = true := by decide

/-- XOR A reads A although the result does not depend on it (R54). -/
theorem test_xor_a_reads_a : strictStep (put 0x0100 [0xAF] start) =
    .fault (.unwrittenRegister "A" 0x0100#16 (put 0x0100 [0xAF] start).bus) := rfl

theorem witness_hostRegisterWrite : debugReg "Q" = none ∧ debugReg "IM" = some .im ∧ debugReg "AF'" = some (.pair true .af) ∧
    debugReg "IFF1" = some .iff1 ∧ (0 : Int) ≤ 2 ∧ (2 : Int) < 2 ^ DebugReg.im.size ∧ (3 : Int) < 2 ^ DebugReg.im.size ∧
    (2 : Int) ^ DebugReg.im.size ≤ 4 ∧ (0 : Int) ≤ 65535 ∧ (65535 : Int) < 2 ^ (DebugReg.pair true .af).size ∧
    (1 : Int) < 2 ^ DebugReg.iff1.size ∧ (2 : Int) ^ DebugReg.iff1.size ≤ 2 := by
  simp only [debugReg]; decide

theorem witness_loadRegister : (Instr.ldBC).family = .ldRR .b .c ∧ (Instr.ldAA).family = .ldRR .a .a ∧
    (Instr.ldLN 0xFF#8).family = .ldRN .l 0xFF#8 := by decide

theorem witness_loadByte : byteLoad (Instr.ldAMemIx (-128)).family ready = some (.a, 0x5F80#16) ∧
    ready.bus.readError (.mem 0x5F80#16) = none ∧
    byteLoad (Instr.ldAMemNn 0x6001#16).family edge = some (.a, 0x6001#16) ∧
    edge.bus.readError (.mem 0x6001#16) = some .unmapped := by decide

theorem witness_storeByte : byteStore (Instr.ldMemHlA).family ready = some (0x8000#16, 0x12#8) ∧
    ready.bus.writeError (.mem 0x8000#16) = none ∧ ready.canonical = true ∧ ready.bus.isDevice (.mem 0x8000#16) = false ∧
    (memUpTo 0x9000 false ready).bus.writeError (.mem 0x8000#16) = some .notWritable := by decide

theorem witness_controlRegisters : (Instr.ldAI).family = .ldAI ∧ (Instr.ldAR).family = .ldAR ∧ (Instr.ldIA).family = .ldIA ∧
    (Instr.ldRA).family = .ldRA := by decide

theorem witness_loadPair : (Instr.ldSpNn 0xFFFF#16).family = .ldDdNn .sp 0xFFFF#16 ∧
    (Instr.ldIyNn 0x0000#16).family = .ldXyNn .iy 0x0000#16 ∧ (Instr.ldSpHl).family = .ldSpHl ∧
    (Instr.ldSpIx).family = .ldSpXy .ix := by decide

theorem witness_loadWord : ready.bus.readError (.mem 0xFFFF#16) = none ∧ ready.bus.readError (.mem (0xFFFF#16 + 1)) = none ∧
    pairLoad (Instr.ldHlMemNn 0xFFFF#16).family = some (.hl, 0xFFFF#16) ∧
    pairLoad (Instr.ldSpMemNn 0xFFFF#16).family = some (.sp, 0xFFFF#16) ∧
    (Instr.ldIxMemNn 0xFFFF#16).family = .ldXyFrom .ix 0xFFFF#16 := by decide

theorem witness_loadWord_fails : pairLoad (Instr.ldHlMemNn 0x6000#16).family = some (.hl, 0x6000#16) ∧
    edge.bus.readError (.mem 0x6000#16) = none ∧ edge.bus.readError (.mem (0x6000#16 + 1)) = some .unmapped ∧
    edge.bus.readError (.mem 0x6001#16) = some .unmapped := by decide

theorem witness_storeWord : wordStore (Instr.ldMemNnIx 0x6000#16).family ready = some (0x6000#16, 0x6000#16) ∧
    ready.bus.writeError (.mem 0x6000#16) = none ∧ ready.bus.writeError (.mem (0x6000#16 + 1)) = none ∧
    ready.canonical = true ∧ ready.bus.isDevice (.mem 0x6000#16) = false ∧
    edge.bus.writeError (.mem 0x6000#16) = none ∧ edge.bus.writeError (.mem (0x6000#16 + 1)) = some .unmapped ∧
    edge.bus.writeError (.mem 0x7000#16) = some .unmapped := by decide

theorem witness_push : pushed (Instr.pushAf).family ready = some 0x1234#16 ∧ pushed (Instr.pushIy).family ready = some 0x5000#16 ∧
    Completes .pushAf ready ∧ ready.wordInStorage (ready.sp - 2) ∧ Completes .pushIy ready := by
  unfold Completes State.wordInStorage; decide

theorem witness_pop : Completes .popAf ready ∧ (Instr.popAf).family = .pop .af ∧ Completes .popIx ready ∧
    (Instr.popIx).family = .popXy .ix := by
  unfold Completes; decide

theorem witness_exchange : (Instr.exDeHl).family = .exDeHl ∧ (Instr.exAfAf).family = .exAf ∧ (Instr.exx).family = .exx ∧
    ∃ t u, exec .exx ready = .next t ∧ exec .exx t = .next u := ⟨rfl, rfl, rfl, _, _, rfl, rfl⟩

theorem witness_exchangeStack : Completes .exMemSpHl ready ∧ (Instr.exMemSpHl).family = .exSpHl ∧ Completes .exMemSpIx ready ∧
    (Instr.exMemSpIx).family = .exSpXy .ix ∧ ready.wordInStorage ready.sp := by
  unfold Completes State.wordInStorage; decide

theorem witness_blocks : (Instr.lddr).family = .ldBlock .down true ∧ Completes .lddr ready ∧
    (Instr.cpi).family = .cpBlock .up false ∧ Completes .cpi ready := by
  unfold Completes; decide

theorem witness_arithmetic : aluOperand (Instr.adcAMemIy 127).family ready = some (.adc, ready.readValue (.mem 0x507F#16),
      ready.sawRead (.mem 0x507F#16)) ∧ Completes (.adcAMemIy 127) ready ∧
    aluOperand (Instr.addAB).family ready = some (.add, 0x02#8, ready) ∧ Completes .addAB ready ∧
    aluOperand (Instr.sbcAN 0xFF#8).family ready = some (.sbc, 0xFF#8, ready) ∧ Completes (.sbcAN 0xFF#8) ready ∧
    aluOperand (Instr.cpA).family ready = some (.cp, 0x12#8, ready) ∧ Completes .cpA ready ∧
    aluOperand (Instr.xorA).family ready = some (.xor, 0x12#8, ready) ∧ Completes .xorA ready := by
  unfold Completes; decide

theorem witness_increment : incDecOperand (Instr.incMemHl).family ready = some (true, .mem 0x8000#16) ∧
    Completes .incMemHl ready ∧ incDecOperand (Instr.decA).family ready = some (false, .reg .a) ∧ Completes .decA ready := by
  unfold Completes; decide

theorem witness_general : (Instr.daa).family = .daa ∧ (Instr.cpl).family = .cpl ∧ (Instr.neg).family = .neg ∧
    (Instr.ccf).family = .ccf ∧ (Instr.scf).family = .scf ∧ (Instr.nop).family = .nop ∧ (Instr.halt).family = .halt ∧
    (Instr.di).family = .di ∧ (Instr.ei).family = .ei ∧ (Instr.im2).family = .im .im2 := by decide

theorem witness_words : (Instr.addHlSp).family = .addHl .sp ∧ (Instr.addIyIy).family = .addXy .iy .self ∧
    (Instr.adcHlHl).family = .adcHl .hl ∧ (Instr.sbcHlBc).family = .sbcHl .bc ∧ (Instr.incSp).family = .incSs .sp ∧
    (Instr.decBc).family = .decSs .bc ∧ (Instr.incIx).family = .incXy .ix ∧ (Instr.decIy).family = .decXy .iy := by decide

theorem witness_rotates : (Instr.rla).family = .rotA .rl ∧
    shiftOperand (Instr.srlMemIy 0).family ready = some (.srl, .mem 0x5000#16) ∧ Completes (.srlMemIy 0) ready ∧
    shiftOperand (Instr.rlcB).family ready = some (.rlc, .reg .b) ∧ Completes .rlcB ready ∧
    (Instr.rld).family = .rld ∧ Completes .rld ready ∧ (Instr.rrd).family = .rrd ∧ Completes .rrd ready := by
  unfold Completes; decide

theorem witness_bits : bitOperand (Instr.bit7MemIx (-1)).family ready = some (7, .mem 0x5FFF#16) ∧
    Completes (.bit7MemIx (-1)) ready ∧ bitOperand (Instr.bit0A).family ready = some (0, .reg .a) ∧ Completes .bit0A ready ∧
    setResOperand (Instr.set0MemHl).family ready = some (true, 0, .mem 0x8000#16) ∧ Completes .set0MemHl ready ∧
    setResOperand (Instr.res7B).family ready = some (false, 7, .reg .b) ∧ Completes .res7B ready := by
  unfold Completes; decide

theorem witness_jumps : (Instr.jpNn 0xFFFF#16).family = .jp 0xFFFF#16 ∧ (Instr.jpMNn 0#16).family = .jpCc .m 0#16 ∧
    (Instr.jrE (-128)).family = .jr (-128) ∧ (Instr.jrCE 127).family = .jrCc .c 127 ∧ (Instr.jpHl).family = .jpHl ∧
    (Instr.jpIy).family = .jpXy .iy ∧ (Instr.djnzE (-2)).family = .djnz (-2) := by decide

theorem witness_calls : Completes (.callNn 0x2000#16) ready ∧ (Instr.callNn 0x2000#16).family = .call 0x2000#16 ∧
    Completes (.callNzNn 0x2000#16) ready ∧ (Instr.callNzNn 0x2000#16).family = .callCc .nz 0x2000#16 ∧
    Cond.met .nz ready.main.f = true ∧ Completes (.callZNn 0x2000#16) ready ∧ Cond.met .z ready.main.f = false ∧
    Completes .rst38 ready ∧ (Instr.rst38).family = .rst 7 ∧ ready.wordInStorage (ready.sp - 2) := by
  unfold Completes State.wordInStorage; decide

theorem witness_returns : Completes .ret ready ∧ (Instr.ret).family = .ret ∧ Completes .reti ready ∧ Completes .retn ready ∧
    Completes .retNz ready ∧ (Instr.retNz).family = .retCc .nz ∧ Cond.met .nz ready.main.f = true ∧
    Completes .retZ ready ∧ (Instr.retZ).family = .retCc .z ∧ Cond.met .z ready.main.f = false := by
  unfold Completes; decide

theorem witness_input : (Instr.inAPortN 0xFF#8).family = .inAN 0xFF#8 ∧ ready.bus.readError (.io 0xFF#8) = none ∧
    (noPorts ready).bus.readError (.io 0xFF#8) = some .unmapped ∧ (Instr.inCPortC).family = .inRC .c ∧
    ready.bus.readError (.io ready.main.c) = none ∧ (noPorts ready).bus.readError (.io (noPorts ready).main.c) = some .unmapped := by
  decide

theorem witness_output : (Instr.outPortNA 0x00#8).family = .outNA 0x00#8 ∧ (Instr.outPortCC).family = .outCR .c ∧
    ready.bus.writeError (.io 0x00#8) = none ∧ ready.bus.writeError (.io ready.main.c) = none ∧
    ready.bus.isDevice (.io 0x00#8) = true ∧ (noPorts ready).bus.writeError (.io 0x00#8) = some .unmapped := by decide

theorem witness_blockInputOutput : (Instr.indr).family = .inBlock .down true ∧ Completes .indr ready ∧
    (Instr.outi).family = .outBlock .up false ∧ Completes .outi ready := by
  unfold Completes; decide

end Sys2Proof.Tests
end

section
/-! SUPPORT. The proofs of the statements on the state (10_state.md): what each instruction writes and leaves alone, the step
taken apart, the shadow bank, the fetch, the host's register writes, the accesses of each meaning and the strict step. -/

namespace Sys2Proof.Machine

/-! ### The marks after one update -/

/-- The bits of the byte F, by their numbers (R36). -/
theorem Flags.toByte_bits (f : Flags) :
    f.toByte.getLsbD 7 = f.s ∧ f.toByte.getLsbD 6 = f.z ∧ f.toByte.getLsbD 5 = f.b5 ∧ f.toByte.getLsbD 4 = f.h ∧
      f.toByte.getLsbD 3 = f.b3 ∧ f.toByte.getLsbD 2 = f.pv ∧ f.toByte.getLsbD 1 = f.n ∧ f.toByte.getLsbD 0 = f.c := by
  have h := Flags.ofByte_toByte f
  exact ⟨congrArg Flags.s h, congrArg Flags.z h, congrArg Flags.b5 h, congrArg Flags.h h, congrArg Flags.b3 h,
    congrArg Flags.pv h, congrArg Flags.n h, congrArg Flags.c h⟩

/-- The mark of a bit of F, by its number (R54). -/
theorem State.marked_flag (s : State) (b : Fin 8) :
    s.marked (.flag b) = match b with
      | 7 => s.main.written.f.s
      | 6 => s.main.written.f.z
      | 5 => s.main.written.f.b5
      | 4 => s.main.written.f.h
      | 3 => s.main.written.f.b3
      | 2 => s.main.written.f.pv
      | 1 => s.main.written.f.n
      | 0 => s.main.written.f.c := by
  obtain ⟨h7, h6, h5, h4, h3, h2, h1, h0⟩ := s.main.written.f.toByte_bits
  fin_cases b <;> assumption

/-- Whether a `setF` writes the bit: bits 5 and 3 always, a named flag where its line writes it (R54, R233). -/
def FlagSet.writes (u : FlagSet) : Marked → Bool
  | .flag 7 => u.s.isSome
  | .flag 6 => u.z.isSome
  | .flag 4 => u.h.isSome
  | .flag 2 => u.pv.isSome
  | .flag 1 => u.n.isSome
  | .flag 0 => u.c.isSome
  | _ => true

/-- The bits of F that a `setF` writes (R54). -/
def FlagSet.parts (u : FlagSet) : List Marked := allBits.filter u.writes

theorem State.marked_setF (s : State) (u : FlagSet) (m : Marked) :
    (s.setF u).marked m = (decide (m ∈ u.parts) || s.marked m) := by
  cases m with
  | reg r => cases r <;> simp [FlagSet.parts, allBits, State.marked, State.setF, BankMarks.get]
  | flag b =>
    rw [State.marked_flag, State.marked_flag]
    fin_cases b <;> simp [FlagSet.parts, FlagSet.writes, allBits, State.setF, FlagSet.marks, markAfter]
  | sp => simp [FlagSet.parts, allBits, State.marked]
  | index x => cases x <;> simp [FlagSet.parts, allBits, State.marked]

theorem State.marked_setReg8 (s : State) (r : Reg8) (v : Byte) (m : Marked) :
    (s.setReg8 r v).marked m = (decide (m ∈ [Marked.reg r]) || s.marked m) := by
  cases m with
  | reg q => cases q <;> cases r <;> rfl
  | flag b => cases r <;> rfl
  | sp => rfl
  | index x => cases x <;> rfl

theorem State.marked_setFByte (s : State) (v : Byte) (m : Marked) :
    (s.setFByte v).marked m = (decide (m ∈ allBits) || s.marked m) := by
  cases m with
  | reg r => cases r <;> rfl
  | flag b =>
    rw [State.marked_flag]
    fin_cases b <;> rfl
  | sp => rfl
  | index x => cases x <;> rfl

theorem State.marked_setSp (s : State) (v : Word) (m : Marked) :
    (s.setSp v).marked m = (decide (m ∈ [Marked.sp]) || s.marked m) := by
  cases m with
  | reg r => rfl
  | flag b => rfl
  | sp => rfl
  | index x => cases x <;> rfl

theorem State.marked_setIndex (s : State) (x : Index) (v : Word) (m : Marked) :
    (s.setIndex x v).marked m = (decide (m ∈ [Marked.index x]) || s.marked m) := by
  cases m with
  | reg r => cases x <;> rfl
  | flag b => cases x <;> rfl
  | sp => cases x <;> rfl
  | index y => cases x <;> cases y <;> rfl

/-- The marks depend on the main bank's and the word registers' marks only (R54). -/
theorem State.marked_congr {s t : State} (hm : t.main.written = s.main.written) (hw : t.written = s.written) (m : Marked) :
    t.marked m = s.marked m := by
  cases m with
  | reg r => exact congrArg (fun k => BankMarks.get k r) hm
  | flag b => exact congrArg (fun k : BankMarks => k.f.toByte.getLsbD b.val) hm
  | sp => exact congrArg WordMarks.sp hw
  | index x => cases x <;> simp [State.marked, hw]

/-! ### What an instruction writes and what it leaves alone -/

/-- What only the instructions of `Family.plain = false` write: the shadow bank, the control registers, the hidden marks, the
host's inputs and the regions; the rest of the state is blanked. -/
def State.still (s : State) : State :=
  { s with
    main := Bank.reset, ix := 0, iy := 0, sp := 0, written := State.reset.written, pc := 0, draws := 0
    bus := { s.bus with mem := [], io := [], log := [] } }

/-- From `s` to `t` exactly the registers and bits of F in `l` have been written (R54), and nothing that `State.still`
keeps has changed. -/
structure Writes (l : List Marked) (s t : State) : Prop where
  marked : ∀ m, t.marked m = (decide (m ∈ l) || s.marked m)
  still : t.still = s.still

namespace Writes

variable {l : List Marked} {s t : State}

theorem refl (s : State) : Writes [] s s := ⟨fun _ => by simp, rfl⟩

theorem trans {l' : List Marked} {u : State} (h : Writes l s t) (k : Writes l' t u) : Writes (l ++ l') s u := by
  refine ⟨fun m => ?_, k.still.trans h.still⟩
  rw [k.marked, h.marked, ← Bool.or_assoc]
  simp [Bool.or_comm]

theorem perm {l' : List Marked} (h : Writes l s t) (p : l.Perm l') : Writes l' s t :=
  ⟨fun m => by rw [h.marked, decide_eq_decide.mpr p.mem_iff], h.still⟩

/-- An update that leaves the marks alone. -/
theorem keep {u : State} (h : Writes l s t) (hm : u.main.written = t.main.written) (hw : u.written = t.written)
    (k : u.still = t.still) : Writes l s u :=
  ⟨fun m => by rw [State.marked_congr hm hw, h.marked], k.trans h.still⟩

theorem advance (h : Writes l s t) (n : Nat) : Writes l s (t.advance n) := h.keep rfl rfl rfl
theorem jump (h : Writes l s t) (a : Word) : Writes l s (t.jump a) := h.keep rfl rfl rfl
theorem draw (h : Writes l s t) (n : Nat) : Writes l s { t with draws := n } := h.keep rfl rfl rfl

theorem sawRead (h : Writes l s t) (p : Place) : Writes l s (t.sawRead p) :=
  h.keep (by simp) (by simp) (by unfold State.sawRead; split <;> rfl)

theorem sawWrite (h : Writes l s t) (p : Place) (v : Byte) : Writes l s (t.sawWrite p v) :=
  h.keep rfl rfl (by unfold State.sawWrite; split <;> cases p <;> rfl)

theorem setReg8 (h : Writes l s t) (r : Reg8) (v : Byte) : Writes (l ++ [.reg r]) s (t.setReg8 r v) :=
  h.trans ⟨t.marked_setReg8 r v, rfl⟩

theorem setFByte (h : Writes l s t) (v : Byte) : Writes (l ++ allBits) s (t.setFByte v) :=
  h.trans ⟨t.marked_setFByte v, rfl⟩

theorem setF (h : Writes l s t) (u : FlagSet) : Writes (l ++ u.parts) s (t.setF u) := h.trans ⟨t.marked_setF u, rfl⟩

/-- The flags of a Flags line that writes the bits `l'`. -/
theorem flags {l' : List Marked} (h : Writes l s t) (u : FlagSet) (e : u.parts = l') : Writes (l ++ l') s (t.setF u) :=
  e ▸ h.setF u

theorem setSp (h : Writes l s t) (v : Word) : Writes (l ++ [.sp]) s (t.setSp v) := h.trans ⟨t.marked_setSp v, rfl⟩

theorem setIndex (h : Writes l s t) (x : Index) (v : Word) : Writes (l ++ [.index x]) s (t.setIndex x v) :=
  h.trans ⟨t.marked_setIndex x v, by cases x <;> rfl⟩

theorem setBc (h : Writes l s t) (v : Word) : Writes (l ++ Pair.parts .bc) s (t.setBc v) :=
  h.trans (((refl t).setReg8 _ _).setReg8 _ _)

theorem setDe (h : Writes l s t) (v : Word) : Writes (l ++ Pair.parts .de) s (t.setDe v) :=
  h.trans (((refl t).setReg8 _ _).setReg8 _ _)

theorem setHl (h : Writes l s t) (v : Word) : Writes (l ++ hlParts) s (t.setHl v) :=
  h.trans (((refl t).setReg8 _ _).setReg8 _ _)

theorem setPair (h : Writes l s t) (p : Pair) (v : Word) : Writes (l ++ p.parts) s (t.setPair p v) := by
  cases p with
  | bc => exact h.setBc v
  | de => exact h.setDe v
  | hl => exact h.setHl v
  | sp => exact h.setSp v

theorem setStackPair (h : Writes l s t) (q : StackPair) (v : Word) : Writes (l ++ q.parts) s (t.setStackPair q v) := by
  cases q with
  | bc => exact h.setBc v
  | de => exact h.setDe v
  | hl => exact h.setHl v
  | af => exact h.trans (((refl t).setReg8 _ _).setFByte _)

theorem setBlockFlags (h : Writes l s t) : Writes (l ++ allBits) s t.setBlockFlags :=
  (h.draw _).flags _ rfl

theorem writeBack (h : Writes l s t) (op : AluOp) (v : Byte) :
    Writes (l ++ if op = .cp then [] else [.reg .a]) s (op.writeBack v t) := by
  cases op with
  | cp => exact h.trans (refl t)
  | add | adc | sub | sbc | and | xor | or => exact h.setReg8 .a v

end Writes

/-- If `x` answers a state, from `s` to it exactly `l` has been written. -/
def Ends (l : List Marked) (s : State) (x : Out State) : Prop := ∀ t, x = .next t → Writes l s t

namespace Ends

variable {l : List Marked} {s : State}

theorem next {t : State} (h : Writes l s t) : Ends l s (.next t) := fun _ e => by cases e; exact h

theorem after {l' : List Marked} {t : State} {x : Out State} (h : Writes l s t) (k : Ends l' t x) : Ends (l ++ l') s x :=
  fun u e => h.trans (k u e)

theorem read {p : Place} {f : Byte → State → Out State} (h : ∀ v u, Ends l u (f v u)) :
    Ends l s (withValue (readPlace p s) f) := by
  rw [readPlace_eq]
  cases s.bus.readError p with
  | some k => exact fun _ e => nomatch e
  | none => exact after ((Writes.refl s).sawRead p) (h _ _)

theorem write {p : Place} {v : Byte} {f : State → Out State} (h : ∀ u, Ends l u (f u)) :
    Ends l s (afterwards (writePlace p v s) f) := by
  rw [writePlace_eq]
  cases s.bus.writeError p with
  | some k => exact fun _ e => nomatch e
  | none => exact after ((Writes.refl s).sawWrite p v) (h _)

theorem read16 {a : Word} {f : Word → State → Out State} (h : ∀ v u, Ends l u (f v u)) :
    Ends l s (withValue (memRead16 a s) f) := by
  unfold memRead16
  rw [withValue_withValue]
  simp only [withValue_withValue]
  exact read fun _ _ => read fun _ _ => h _ _

theorem write16 {a v : Word} {f : State → Out State} (h : ∀ u, Ends l u (f u)) :
    Ends l s (afterwards (memWrite16 a v s) f) := by
  unfold memWrite16
  rw [afterwards_afterwards]
  exact write fun _ => write h

theorem push {v : Word} {f : State → Out State} (h : ∀ u, Ends l u (f u)) :
    Ends (.sp :: l) s (afterwards (push16 v s) f) := after ((Writes.refl s).setSp _) (write16 h)

theorem pop {f : Word → State → Out State} (h : ∀ v u, Ends l u (f v u)) :
    Ends (.sp :: l) s (withValue (pop16 s) f) := by
  unfold pop16
  rw [withValue_withValue]
  exact read16 fun _ u => after ((Writes.refl u).setSp _) (h _ _)

end Ends

/-! ### What each shared meaning writes -/

section Meanings

variable (s : State)

theorem loadReg_ends (r : Reg8) (a : Word) (len : Nat) : Ends [.reg r] s (loadReg r a len s) :=
  .read fun v u => .next (((Writes.refl u).setReg8 r v).advance len)

theorem storeByte_ends (a : Word) (v : Byte) (len : Nat) : Ends [] s (storeByte a v len s) := by
  rw [storeByte_eq]
  cases s.bus.writeError (.mem a) with
  | some k => exact fun _ e => nomatch e
  | none => exact .next (((Writes.refl s).sawWrite _ _).advance len)

theorem loadAFrom_ends (v : Byte) : Ends (.reg .a :: bitsButCarry) s (loadAFrom v s) :=
  .next ((((Writes.refl s).setReg8 .a v).setF (loadAFlags v s.iff2)).advance 2)

theorem loadPair_ends (p : Pair) (a : Word) (len : Nat) : Ends p.parts s (loadPair p a len s) :=
  .read16 fun v u => .next (((Writes.refl u).setPair p v).advance len)

theorem loadIndex_ends (x : Index) (a : Word) : Ends [.index x] s (loadIndex x a s) :=
  .read16 fun v u => .next (((Writes.refl u).setIndex x v).advance 4)

theorem storeWord_ends (a v : Word) (len : Nat) : Ends [] s (storeWord a v len s) :=
  .write16 fun u => .next ((Writes.refl u).advance len)

theorem pushWord_ends (v : Word) (len : Nat) : Ends [.sp] s (pushWord v len s) :=
  .push fun u => .next ((Writes.refl u).advance len)

theorem popPair_ends (q : StackPair) : Ends (.sp :: q.parts) s (popPair q s) :=
  .pop fun v u => .next (((Writes.refl u).setStackPair q v).advance 1)

theorem popIndex_ends (x : Index) : Ends [.sp, .index x] s (popIndex x s) :=
  .pop fun v u => .next (((Writes.refl u).setIndex x v).advance 2)

theorem exchangeHl_ends : Ends hlParts s (exchangeHl s) :=
  .read16 fun v _ => .write16 fun u => .next (((Writes.refl u).setHl v).advance 1)

theorem exchangeIndex_ends (x : Index) : Ends [.index x] s (exchangeIndex x s) :=
  .read16 fun v _ => .write16 fun u => .next (((Writes.refl u).setIndex x v).advance 2)

theorem blockEnd_ends {l : List Marked} {t : State} (again : Bool) (h : Writes l s t) : Ends l s (blockEnd again t) := by
  cases again with
  | true => exact .next h
  | false => exact .next (h.advance 2)

/-- The bits that a block transfer writes: all but S, Z and C (R206). -/
theorem transferFlags_parts (bc : Word) :
    (transferFlags bc).parts = [.flag 5, .flag 4, .flag 3, .flag 2, .flag 1] := rfl

theorem transfer_ends (dir : Dir) (rep : Bool) :
    Ends [.reg .b, .reg .c, .reg .d, .reg .e, .reg .h, .reg .l, .flag 5, .flag 4, .flag 3, .flag 2, .flag 1] s
      (transfer dir rep s) :=
  .read fun _ _ => .write fun u => blockEnd_ends _ _
    (((((((Writes.refl u).setDe _).setHl _).setBc _).flags _ (transferFlags_parts _)).perm (by decide)))

theorem search_ends (dir : Dir) (rep : Bool) :
    Ends ([.reg .b, .reg .c, .reg .h, .reg .l] ++ bitsButCarry) s (search dir rep s) :=
  .read fun _ u => blockEnd_ends _ _
    (((((Writes.refl u).setHl _).setBc _).flags (l' := bitsButCarry) _ rfl).perm (by decide))

/-- All eight bits are written by each of the eight operations (R230 to R232). -/
theorem AluOp.compute_parts (op : AluOp) (a v : Byte) (c : Bool) : (op.compute a v c).flags.parts = allBits := by
  cases op <;> rfl

theorem alu_ends (op : AluOp) (v : Byte) (len : Nat) :
    Ends ((if op = .cp then [] else [.reg .a]) ++ allBits) s (alu op v len s) :=
  .next ((((Writes.refl s).writeBack op _).flags _ (op.compute_parts _ _ _)).advance len)

theorem aluMem_ends (op : AluOp) (a : Word) (len : Nat) :
    Ends ((if op = .cp then [] else [.reg .a]) ++ allBits) s (aluMem op a len s) :=
  .read fun v u => alu_ends u op v len

theorem updateReg_ends {l : List Marked} {g : Byte → ByteResult} (hg : ∀ v, (g v).flags.parts = l) (r : Reg8) (len : Nat) :
    Ends (.reg r :: l) s (updateReg g r len s) :=
  .next ((((Writes.refl s).setReg8 r _).flags _ (hg _)).advance len)

theorem updateByte_ends {l : List Marked} {g : Byte → ByteResult} (hg : ∀ v, (g v).flags.parts = l) (a : Word) (len : Nat) :
    Ends l s (updateByte g a len s) :=
  .read fun v _ => .write fun u => .next (((Writes.refl u).flags _ (hg v)).advance len)

theorem putA_ends {l : List Marked} {x : ByteResult} (hx : x.flags.parts = l) (len : Nat) :
    Ends (.reg .a :: l) s (putA x len s) :=
  .next ((((Writes.refl s).setReg8 .a _).flags _ hx).advance len)

theorem putHl_ends {l : List Marked} {x : WordResult} (hx : x.flags.parts = l) (len : Nat) :
    Ends (hlParts ++ l) s (putHl x len s) :=
  .next ((((Writes.refl s).setHl _).flags _ hx).advance len)

theorem putIndex_ends {l : List Marked} {w : WordResult} (hw : w.flags.parts = l) (x : Index) :
    Ends (.index x :: l) s (putIndex x w s) :=
  .next ((((Writes.refl s).setIndex x _).flags _ hw).advance 2)

theorem rotateA_ends (op : ShiftOp) : Ends (.reg .a :: carryBits) s (rotateA op s) :=
  .next ((((Writes.refl s).setReg8 .a _).flags (l' := carryBits) _ rfl).advance 1)

theorem rotateDigits_ends (f : Byte → Byte → Byte × Byte) : Ends (.reg .a :: bitsButCarry) s (rotateDigits f s) :=
  .read fun _ _ => .write fun u => .next ((((Writes.refl u).setReg8 .a _).flags (l' := bitsButCarry) _ rfl).advance 2)

theorem testBit_ends (b : Fin 8) (v : Byte) (len : Nat) : Ends bitsButCarry s (testBit b v len s) :=
  .next ((((Writes.refl s).draw _).flags (l' := bitsButCarry) _ rfl).advance len)

theorem testMem_ends (b : Fin 8) (a : Word) (len : Nat) : Ends bitsButCarry s (testMem b a len s) :=
  .read fun v u => testBit_ends u b v len

theorem changeByte_ends (g : Byte → Byte) (a : Word) (len : Nat) : Ends [] s (changeByte g a len s) :=
  .read fun _ _ => .write fun u => .next ((Writes.refl u).advance len)

theorem countB_ends (e : Int) : Ends [.reg .b] s (countB e s) := by
  have h := (Writes.refl s).setReg8 .b (s.main.b - 1)
  unfold countB
  split
  · exact .next (h.jump _)
  · exact .next (h.advance 2)

theorem callTo_ends (target : Word) (len : Nat) : Ends [.sp] s (callTo target len s) :=
  .push fun u => .next ((Writes.refl u).jump target)

theorem returnTo_ends : Ends [.sp] s (returnTo s) := .pop fun v u => .next ((Writes.refl u).jump v)

theorem inputA_ends (n : Byte) : Ends [.reg .a] s (inputA n s) :=
  .read fun v u => .next (((Writes.refl u).setReg8 .a v).advance 2)

theorem inputReg_ends (r : Reg8) : Ends (.reg r :: bitsButCarry) s (inputReg r s) :=
  .read fun v u => .next ((((Writes.refl u).setReg8 r v).flags (l' := bitsButCarry) _ rfl).advance 2)

theorem outputByte_ends (port v : Byte) : Ends [] s (outputByte port v s) :=
  .write fun u => .next ((Writes.refl u).advance 2)

theorem blockIn_ends (dir : Dir) (rep : Bool) :
    Ends ([.reg .b, .reg .h, .reg .l] ++ allBits) s (blockIn dir rep s) :=
  .read fun _ _ => .write fun u => blockEnd_ends _ _
    ((((Writes.refl u).setHl _).setReg8 .b _).setBlockFlags.perm (by decide))

theorem blockOut_ends (dir : Dir) (rep : Bool) :
    Ends ([.reg .b, .reg .h, .reg .l] ++ allBits) s (blockOut dir rep s) :=
  .read fun _ u => .after (l' := hlParts ++ allBits) ((Writes.refl u).setReg8 .b _)
    (.write fun w => blockEnd_ends _ _ ((Writes.refl w).setHl _).setBlockFlags)

end Meanings

end Sys2Proof.Machine

namespace Sys2Proof

open Sys2Proof.Machine

/-- The families that write, besides what carries a mark, no more than PC, the bus and the draws; the others write a control
register or move marks. -/
def Family.plain : Family → Bool
  | .ldIA | .ldRA | .exDeHl | .exAf | .exx | .halt | .di | .ei | .im _ | .reti | .retn => false
  | _ => true

/-- A plain instruction that answers a state has written exactly what `writesOf` lists (R54). -/
theorem Family.plain_ends (f : Family) (s : State) (h : f.plain = true) : Ends (writesOf f s) s (f.exec s) := by
  cases f with
  | ldIA | ldRA | exDeHl | exAf | exx | halt | di | ei | im | reti | retn => cases h
  | ldRR dst src => exact .next (((Writes.refl s).setReg8 dst _).advance 1)
  | ldRN dst n => exact .next (((Writes.refl s).setReg8 dst n).advance 2)
  | ldRHl | ldRIdx | ldABc | ldADe | ldANn => exact loadReg_ends s _ _ _
  | ldHlR | ldIdxR | ldHlN | ldIdxN | ldBcA | ldDeA | ldNnA => exact storeByte_ends s _ _ _
  | ldAI | ldAR => exact loadAFrom_ends s _
  | ldDdNn dd nn => exact .next (((Writes.refl s).setPair dd nn).advance 3)
  | ldXyNn x nn => exact .next (((Writes.refl s).setIndex x nn).advance 4)
  | ldHlFrom | ldDdFrom => exact loadPair_ends s _ _ _
  | ldXyFrom => exact loadIndex_ends s _ _
  | ldNnHl | ldNnDd | ldNnXy => exact storeWord_ends s _ _ _
  | ldSpHl => exact .next (((Writes.refl s).setSp _).advance 1)
  | ldSpXy => exact .next (((Writes.refl s).setSp _).advance 2)
  | push | pushXy => exact pushWord_ends s _ _
  | pop => exact popPair_ends s _
  | popXy => exact popIndex_ends s _
  | exSpHl => exact exchangeHl_ends s
  | exSpXy => exact exchangeIndex_ends s _
  | ldBlock => exact transfer_ends s _ _
  | cpBlock => exact search_ends s _ _
  | aluR | aluN => exact alu_ends s _ _ _
  | aluHl | aluIdx => exact aluMem_ends s _ _ _
  | incR | decR => exact updateReg_ends s (fun _ => rfl) _ _
  | incHl | incIdx | decHl | decIdx => exact updateByte_ends (l := bitsButCarry) s (fun _ => rfl) _ _
  | daa | cpl | neg => exact putA_ends s rfl _
  | ccf | scf => exact .next (((Writes.refl s).flags (l' := carryBits) _ rfl).advance 1)
  | nop => exact .next ((Writes.refl s).advance 1)
  | addHl | adcHl | sbcHl => exact putHl_ends s rfl _
  | addXy => exact putIndex_ends s rfl _
  | incSs | decSs => exact .next (((Writes.refl s).setPair _ _).advance 1)
  | incXy | decXy => exact .next (((Writes.refl s).setIndex _ _).advance 2)
  | rotA => exact rotateA_ends s _
  | shiftR => exact updateReg_ends s (fun _ => rfl) _ _
  | shiftHl | shiftIdx => exact updateByte_ends (l := allBits) s (fun _ => rfl) _ _
  | rld | rrd => exact rotateDigits_ends s _
  | bitR => exact testBit_ends s _ _ _
  | bitHl | bitIdx => exact testMem_ends s _ _ _
  | setR | resR => exact .next (((Writes.refl s).setReg8 _ _).advance 2)
  | setHl | setIdx | resHl | resIdx => exact changeByte_ends s _ _ _
  | jp | jr | jpHl | jpXy => exact .next ((Writes.refl s).jump _)
  | jpCc cc nn =>
    simp only [Family.exec]
    split
    · exact .next ((Writes.refl s).jump _)
    · exact .next ((Writes.refl s).advance _)
  | jrCc cc e =>
    simp only [Family.exec]
    split
    · exact .next ((Writes.refl s).jump _)
    · exact .next ((Writes.refl s).advance _)
  | djnz => exact countB_ends s _
  | call | rst => exact callTo_ends s _ _
  | callCc cc nn =>
    simp only [Family.exec, writesOf]
    split
    · exact callTo_ends s _ _
    · exact .next ((Writes.refl s).advance _)
  | ret => exact returnTo_ends s
  | retCc cc =>
    simp only [Family.exec, writesOf]
    split
    · exact returnTo_ends s
    · exact .next ((Writes.refl s).advance _)
  | inAN => exact inputA_ends s _
  | inRC => exact inputReg_ends s _
  | inBlock => exact blockIn_ends s _ _
  | outNA | outCR => exact outputByte_ends s _ _
  | outBlock => exact blockOut_ends s _ _

end Sys2Proof

namespace Sys2Proof.Machine

/-! ### What an instruction does -/

/-- Everything an instruction that answers a state `t` from `s` can have done, but for the values: a plain one wrote what
`writesOf` lists; each other row is named. -/
inductive Effect (s : State) : Instr → State → Prop where
  | plain {i : Instr} {t : State} (hi : i.family.plain = true) (h : Writes (writesOf i.family s) s t) : Effect s i t
  | ldIA : Effect s .ldIA ({ s with i := s.main.a }.advance 2)
  | ldRA : Effect s .ldRA ({ s with r := s.main.a }.advance 2)
  | halt : Effect s .halt ({ s with halted := true }.advance 1)
  | di : Effect s .di ({ s with iff1 := false, iff2 := false }.advance 1)
  | ei : Effect s .ei ({ s with iff1 := true, iff2 := true, eiShadow := true }.advance 1)
  | im0 : Effect s .im0 ({ s with im := .im0 }.advance 2)
  | im1 : Effect s .im1 ({ s with im := .im1 }.advance 2)
  | im2 : Effect s .im2 ({ s with im := .im2 }.advance 2)
  | reti {u : State} (h : Writes [.sp] s u) : Effect s .reti { u with iff1 := u.iff2 }
  | retn {u : State} (h : Writes [.sp] s u) : Effect s .retn { u with iff1 := u.iff2 }
  | exDeHl : Effect s .exDeHl (s.swapDeHl.advance 1)
  | exAf : Effect s .exAfAf (s.swapAf.advance 1)
  | exx : Effect s .exx (s.swapBanks.advance 1)

/-- The rows whose family is not plain. -/
def specialRows : List Instr :=
  [.ldIA, .ldRA, .halt, .di, .ei, .im0, .im1, .im2, .reti, .retn, .exDeHl, .exAfAf, .exx]

theorem special_or_plain (i : Instr) : i ∈ specialRows ∨ i.family.plain = true := by
  cases i <;> first
    | exact .inr rfl
    | exact .inl (by decide)

/-- A row whose family is not plain is the only one of its family. -/
theorem eq_of_family_eq {i j : Instr} (hj : j ∈ specialRows) (h : i.family = j.family) : i = j := by
  have plain : ∀ j ∈ specialRows, j.family.plain = false := by decide
  have only : ∀ i ∈ specialRows, ∀ j ∈ specialRows, i.family = j.family → i = j := by decide
  have hi : ¬ i.family.plain = true := by rw [h, plain j hj]; nofun
  exact only i ((special_or_plain i).resolve_right hi) j hj h

/-- RETI and RETN pop PC and copy IFF2 into IFF1 (R412, R413). -/
theorem returnFromInterrupt_writes {s t : State} (h : returnFromInterrupt s = .next t) :
    ∃ u, Writes [.sp] s u ∧ t = { u with iff1 := u.iff2 } := by
  obtain ⟨v, u, hp, hn⟩ := withValue_eq_next h
  have hw := Ends.pop (s := s) (f := fun v u => .next (u.jump v)) fun v u => .next ((Writes.refl u).jump v)
  exact ⟨u.jump v, hw _ (by rw [hp]; rfl), (Host.Outcome.next.inj hn).symm⟩

theorem exec_effect {i : Instr} {s t : State} (h : exec i s = .next t) : Effect s i t := by
  rcases special_or_plain i with hi | hi
  · simp only [specialRows, List.mem_cons, List.not_mem_nil, or_false] at hi
    rcases hi with rfl | rfl | rfl | rfl | rfl | rfl | rfl | rfl | rfl | rfl | rfl | rfl | rfl
    · cases h; exact .ldIA
    · cases h; exact .ldRA
    · cases h; exact .halt
    · cases h; exact .di
    · cases h; exact .ei
    · cases h; exact .im0
    · cases h; exact .im1
    · cases h; exact .im2
    · obtain ⟨u, hu, rfl⟩ := returnFromInterrupt_writes h; exact .reti hu
    · obtain ⟨u, hu, rfl⟩ := returnFromInterrupt_writes h; exact .retn hu
    · cases h; exact .exDeHl
    · cases h; exact .exAf
    · cases h; exact .exx
  · rw [exec_family] at h
    exact .plain hi (i.family.plain_ends s hi t h)

/-- The fields of the still part, one by one. -/
theorem Writes.fields {l : List Marked} {s t : State} (h : Writes l s t) :
    ControlFrame s t ∧ t.lines = s.lines ∧ t.bus.memRegions = s.bus.memRegions ∧ t.bus.ioRegions = s.bus.ioRegions :=
  have e := h.still
  ⟨⟨(congrArg State.shadow e :), (congrArg State.i e :), (congrArg State.r e :), (congrArg State.iff1 e :),
    (congrArg State.iff2 e :), (congrArg State.im e :), (congrArg State.halted e :), (congrArg State.eiShadow e :),
    (congrArg State.boundaryUsed e :), (congrArg State.fault e :)⟩, (congrArg State.lines e :),
    (congrArg (fun u => u.bus.memRegions) e :), (congrArg (fun u => u.bus.ioRegions) e :)⟩

/-! ### The step, taken apart -/

/-- A fetch leaves everything alone but the bus and the draws (R81). -/
theorem fetchFrom_keeps {n : Nat} {bytes : List Byte} {s t : State} {x : Instr × List Byte}
    (h : fetchFrom n bytes s = .next (x, t)) : t = { s with bus := t.bus, draws := t.draws } := by
  induction n generalizing bytes s with
  | zero => cases h
  | succ n ih =>
    unfold fetchFrom at h
    split at h
    · cases h; rfl
    · cases h
    · obtain ⟨b, u, hr, hf⟩ := withValue_eq_next h
      rw [memRead, readPlace_eq] at hr
      split at hr
      · cases hr
        have ht := ih hf
        rw [State.sawRead_eq] at ht
        exact ht
      · cases hr

theorem fetch_keeps {s t : State} {x : Instr × List Byte} (h : fetch s = .next (x, t)) :
    t = { s with bus := t.bus, draws := t.draws } := fetchFrom_keeps h

/-- An engine call while halted (R49). -/
theorem engineCall_halted {s : State} (hf : s.fault = none) (hh : s.halted = true) : engineCall s = haltedCall s := by
  simp [engineCall, hf, hh]

/-- Where no interrupt is due the step is an engine call (R575). -/
theorem step_quiet {s : State} (hf : s.fault = none) (hn : nmiDue s = false) (hi : intDue s = false) :
    step s = engineCall s := by
  simp [step, hf, hn, hi]

/-- The step of a running machine: the instruction at PC is fetched and executed (R91, R500). -/
theorem step_running {s : State} (h : Running s) :
    step s = withValue (fetch s) fun x s1 => exec x.1 (s1.begin x.2) := by
  obtain ⟨hf, hh, hn, hi⟩ := h
  rw [step_quiet hf hn hi]
  simp [engineCall, hf, hh]

/-- The step of a running machine, its instruction fetched. -/
theorem step_fetched {s s1 : State} {i : Instr} {bytes : List Byte} (h : Running s)
    (hx : fetch s = .next ((i, bytes), s1)) : step s = exec i (s1.begin bytes) := by
  rw [step_running h, hx, withValue_next]

/-- What a step that answers a state was: an acceptance, an engine call while halted, or an instruction. -/
inductive Stepped (s : State) : State → Prop where
  | accepted {t : State} (hd : nmiDue s = true ∨ intDue s = true) (h : acceptInterrupt s = .next t) : Stepped s t
  | halted (hh : s.halted = true) : Stepped s { s.tick with boundaryUsed := false }
  | ran {i : Instr} {bytes : List Byte} {s1 t : State} (hr : Running s) (hx : fetch s = .next ((i, bytes), s1))
      (h : exec i (s1.begin bytes) = .next t) : Stepped s t

theorem step_stepped {s t : State} (h : step s = .next t) : s.fault = none ∧ Stepped s t := by
  cases hf : s.fault with
  | some m => simp [step, hf] at h
  | none =>
    refine ⟨rfl, ?_⟩
    by_cases hd : nmiDue s = true ∨ intDue s = true
    · exact .accepted hd (by simpa [step, hf, hd] using h)
    · obtain ⟨hn, hi⟩ : nmiDue s = false ∧ intDue s = false := by simpa using hd
      by_cases hh : s.halted = true
      · rw [step_quiet hf hn hi, engineCall_halted hf hh] at h
        cases h
        exact .halted hh
      · have hr : Running s := ⟨hf, by simpa using hh, hn, hi⟩
        rw [step_running hr] at h
        obtain ⟨⟨i, bytes⟩, s1, hx, he⟩ := withValue_eq_next h
        exact .ran hr hx he

/-- Taking an interrupt counts R and ends the halted state and the EI shadow (R511), where the read of the target writes no
register. -/
theorem takeInterrupt_next {target : State → Out (Word × State)} {s t : State} (h : takeInterrupt target s = .next t)
    (hj : ∀ u, Ends [] u (withValue (target u) fun v w => .next (w.jump v))) (hf : s.fault = none) :
    t.r = refresh s.r ∧ t.halted = false ∧ t.eiShadow = false ∧ t.fault = none := by
  have hw : Writes [.sp] { s.tick with halted := false, eiShadow := false, boundaryUsed := true } t := Ends.push hj t h
  obtain ⟨c, -⟩ := hw.fields
  exact ⟨c.r, c.halted, c.eiShadow, c.fault.trans hf⟩

/-- What an acceptance that answers a state does to R and the hidden marks (R511). -/
theorem acceptInterrupt_next {s t : State} (hf : s.fault = none) (hd : nmiDue s = true ∨ intDue s = true)
    (h : acceptInterrupt s = .next t) : t.r = refresh s.r ∧ t.halted = false ∧ t.eiShadow = false ∧ t.fault = none := by
  have jumps : ∀ (a : Word) (u : State), Ends [] u (withValue (.next (a, u)) fun v w => .next (w.jump v)) :=
    fun a u => .next ((Writes.refl u).jump a)
  simp only [acceptInterrupt, hf] at h
  by_cases hn : nmiDue s = true
  · rw [if_pos hn, acceptNmi] at h
    exact (takeInterrupt_next h (jumps _) hf :)
  · rw [if_neg hn, if_pos (hd.resolve_left hn)] at h
    cases him : s.im with
    | im0 =>
      rw [acceptInt_im0 him] at h
      split at h
      · exact (takeInterrupt_next h (jumps _) hf :)
      · cases h
    | im1 =>
      rw [acceptInt_im1 him] at h
      exact (takeInterrupt_next h (jumps _) hf :)
    | im2 =>
      rw [acceptInt_im2 him] at h
      exact (takeInterrupt_next h (fun _ => .read16 fun v w => .next ((Writes.refl w).jump v)) hf :)

/-- The state an instruction starts in has R counted, and is not otherwise halted, faulted or elsewhere than before the fetch
(R47, R50). -/
theorem begin_of_fetch {s s1 : State} {x : Instr × List Byte} (h : fetch s = .next (x, s1)) (bytes : List Byte) :
    (s1.begin bytes).r = Nat.iterate refresh (m1Fetches bytes) s.r ∧ (s1.begin bytes).halted = s.halted ∧
      (s1.begin bytes).fault = s.fault ∧ (s1.begin bytes).pc = s.pc := by
  rw [fetch_keeps h]
  simp [State.begin, State.ticks_eq]

/-- One increment keeps bit 7 and counts the other seven (R47, R48). -/
theorem refresh_toNat (r : Byte) : (refresh r).toNat = 128 * (r.toNat / 128) + (r.toNat % 128 + 1) % 128 := by
  have := r.isLt
  rw [refresh, BitVec.toNat_ofNat, Nat.mod_eq_of_lt (by omega)]

theorem refresh_bit7 (r : Byte) : (refresh r).getLsbD 7 = r.getLsbD 7 := by revert r; decide

theorem refresh_iterate_bit7 (n : Nat) (r : Byte) : (Nat.iterate refresh n r).getLsbD 7 = r.getLsbD 7 := by
  induction n generalizing r with
  | zero => rfl
  | succ n ih => rw [Function.iterate_succ_apply, ih, refresh_bit7]

theorem encode_ne_nil (i : Instr) : encode i ≠ [] := by
  cases i <;> exact List.cons_ne_nil _ _

theorem m1Fetches_eq {bytes : List Byte} (h : bytes ≠ []) :
    m1Fetches bytes = if bytes.head? = some 0xCB#8 ∨ bytes.head? = some 0xED#8 ∨ bytes.head? = some 0xDD#8 ∨
      bytes.head? = some 0xFD#8 then 2 else 1 := by
  cases bytes with
  | nil => exact absurd rfl h
  | cons b rest => simp [m1Fetches]

/-! ### The marks, whole -/

/-- Marks that only grow, one by one (R54). -/
theorem marksKept_of_marked {s t : State} (h : ∀ m, s.marked m = true → t.marked m = true) : MarksKept s t := by
  have hf : ∀ b : Fin 8, s.marked (.flag b) = true → t.marked (.flag b) = true := fun b => h (.flag b)
  simp only [State.marked_flag] at hf
  exact ⟨fun r => h (.reg r), ⟨hf 7, hf 6, hf 5, hf 4, hf 3, hf 2, hf 1, hf 0⟩, h (.index .ix), h (.index .iy), h .sp⟩

/-- An instruction other than an exchange sets the marks of what it writes and moves no other (R54). -/
theorem exec_marked {i : Instr} {s t : State} (h : exec i s = .next t) (h1 : i ≠ .exAfAf) (h2 : i ≠ .exx)
    (h3 : i ≠ .exDeHl) :
    (∀ m, t.marked m = (decide (m ∈ writesOf i.family s) || s.marked m)) ∧ t.shadow = s.shadow := by
  cases exec_effect h with
  | plain _ hw => exact ⟨hw.marked, hw.fields.1.shadow⟩
  | reti hw | retn hw => exact ⟨fun m => (State.marked_congr rfl rfl m).trans (hw.marked m), hw.fields.1.shadow⟩
  | exDeHl | exAf | exx => contradiction
  | _ => exact ⟨fun m => (State.marked_congr rfl rfl m).trans ((Writes.refl s).marked m), rfl⟩

/-! ### The shadow bank is invisible -/

/-- The state with another shadow bank. -/
def State.withShadow (s : State) (k : Bank) : State := { s with shadow := k }

/-- The outcome with the shadow bank replaced in the state it answers. -/
def shadowed (k : Bank) : Out State → Out State
  | .next t => .next (t.withShadow k)
  | .fault r => .fault r
  | .refused r => .refused r

theorem State.sawRead_shadowed (s : State) (p : Place) (k : Bank) :
    (s.withShadow k).sawRead p = (s.sawRead p).withShadow k := by
  unfold State.sawRead State.withShadow
  split <;> rfl

section Shadowed

variable {s : State} {k : Bank}

theorem shadowed_read {p : Place} {f g : Byte → State → Out State}
    (h : ∀ v u, f v (u.withShadow k) = shadowed k (g v u)) :
    withValue (readPlace p (s.withShadow k)) f = shadowed k (withValue (readPlace p s) g) := by
  rw [readPlace_eq, readPlace_eq, State.sawRead_shadowed]
  show withValue (match s.bus.readError p with | none => _ | some _ => _) f = _
  cases s.bus.readError p with
  | some e => rfl
  | none => exact h _ _

theorem shadowed_write {p : Place} {v : Byte} {f g : State → Out State}
    (h : ∀ u, f (u.withShadow k) = shadowed k (g u)) :
    afterwards (writePlace p v (s.withShadow k)) f = shadowed k (afterwards (writePlace p v s) g) := by
  rw [writePlace_eq, writePlace_eq]
  show afterwards (match s.bus.writeError p with | none => .next ((s.sawWrite p v).withShadow k) | some _ => _) f = _
  cases s.bus.writeError p with
  | some e => rfl
  | none => exact h _

theorem shadowed_read16 {a : Word} {f g : Word → State → Out State}
    (h : ∀ v u, f v (u.withShadow k) = shadowed k (g v u)) :
    withValue (memRead16 a (s.withShadow k)) f = shadowed k (withValue (memRead16 a s) g) := by
  unfold memRead16
  rw [withValue_withValue, withValue_withValue]
  simp only [withValue_withValue]
  exact shadowed_read fun _ _ => shadowed_read fun _ _ => h _ _

theorem shadowed_write16 {a v : Word} {f g : State → Out State}
    (h : ∀ u, f (u.withShadow k) = shadowed k (g u)) :
    afterwards (memWrite16 a v (s.withShadow k)) f = shadowed k (afterwards (memWrite16 a v s) g) := by
  unfold memWrite16
  rw [afterwards_afterwards, afterwards_afterwards]
  exact shadowed_write fun _ => shadowed_write h

theorem shadowed_push {v : Word} {f g : State → Out State}
    (h : ∀ u, f (u.withShadow k) = shadowed k (g u)) :
    afterwards (push16 v (s.withShadow k)) f = shadowed k (afterwards (push16 v s) g) :=
  shadowed_write16 (s := s.setSp (s.sp - 2)) h

theorem shadowed_pop {f g : Word → State → Out State}
    (h : ∀ v u, f v (u.withShadow k) = shadowed k (g v u)) :
    withValue (pop16 (s.withShadow k)) f = shadowed k (withValue (pop16 s) g) := by
  unfold pop16
  rw [withValue_withValue, withValue_withValue]
  exact shadowed_read16 fun v u => h v (u.setSp (u.sp + 2))

theorem shadowed_blockEnd {u : State} {again : Bool} (h : u = s.withShadow k) :
    blockEnd again u = shadowed k (blockEnd again s) := by
  subst h
  cases again <;> rfl

end Shadowed

end Sys2Proof.Machine

namespace Sys2Proof

open Sys2Proof.Machine

/-- The meaning of an instruction other than EX AF,AF' and EXX does not look at the shadow bank and carries it along (R34). -/
theorem Family.exec_shadowed (f : Family) (s : State) (k : Bank) (h1 : f ≠ .exAf) (h2 : f ≠ .exx) :
    f.exec (s.withShadow k) = shadowed k (f.exec s) := by
  cases f with simp only [Family.exec]
  | exAf | exx => contradiction
  | ldRHl | ldRIdx | ldABc | ldADe | ldANn | bitHl | bitIdx | inAN | inRC => exact shadowed_read fun _ _ => rfl
  | ldHlR | ldIdxR | ldHlN | ldIdxN | ldBcA | ldDeA | ldNnA | outNA | outCR => exact shadowed_write fun _ => rfl
  | ldHlFrom => exact shadowed_read16 fun _ _ => rfl
  | ldDdFrom dd => cases dd <;> exact shadowed_read16 fun _ _ => rfl
  | ldXyFrom x => cases x <;> exact shadowed_read16 fun _ _ => rfl
  | ldNnDd _ dd => cases dd <;> exact shadowed_write16 fun _ => rfl
  | ldNnXy _ x => cases x <;> exact shadowed_write16 fun _ => rfl
  | ldNnHl => exact shadowed_write16 fun _ => rfl
  | push q => cases q <;> exact shadowed_push fun _ => rfl
  | pushXy x => cases x <;> exact shadowed_push fun _ => rfl
  | call | rst => exact shadowed_push fun _ => rfl
  | pop q => cases q <;> exact shadowed_pop fun _ _ => rfl
  | popXy x => cases x <;> exact shadowed_pop fun _ _ => rfl
  | ret | reti | retn => exact shadowed_pop fun _ _ => rfl
  | exSpHl => exact shadowed_read16 fun _ _ => shadowed_write16 fun _ => rfl
  | exSpXy x => cases x <;> exact shadowed_read16 fun _ _ => shadowed_write16 fun _ => rfl
  | incHl | incIdx | decHl | decIdx | shiftHl | shiftIdx | setHl | setIdx | resHl | resIdx | rld | rrd =>
    exact shadowed_read fun _ _ => shadowed_write fun _ => rfl
  | aluHl op | aluIdx op => cases op <;> exact shadowed_read fun _ _ => rfl
  | aluR op | aluN op => cases op <;> rfl
  | ldBlock | inBlock => exact shadowed_read fun _ _ => shadowed_write fun _ => shadowed_blockEnd rfl
  | cpBlock => exact shadowed_read fun _ _ => shadowed_blockEnd rfl
  | outBlock => exact shadowed_read fun _ u => shadowed_write (s := u.setReg8 .b _) (k := k) fun _ => shadowed_blockEnd rfl
  | callCc cc nn =>
    show (if s.cond cc then _ else _) = _
    split
    · exact shadowed_push fun _ => rfl
    · rfl
  | retCc cc =>
    show (if s.cond cc then _ else _) = _
    split
    · exact shadowed_pop fun _ _ => rfl
    · rfl
  | ldDdNn p | addHl p | adcHl p | sbcHl p | incSs p | decSs p => cases p <;> rfl
  | ldXyNn x | ldSpXy x | incXy x | decXy x | jpXy x => cases x <;> rfl
  | addXy x p => cases x <;> cases p <;> rfl
  | jpCc cc nn =>
    show Host.Outcome.next (if s.cond cc then _ else _) = _
    split <;> rfl
  | jrCc cc nn =>
    show Host.Outcome.next (if s.cond cc then _ else _) = _
    split <;> rfl
  | djnz =>
    show Host.Outcome.next (if s.main.b - 1 ≠ 0 then _ else _) = shadowed k (.next (if s.main.b - 1 ≠ 0 then _ else _))
    split <;> rfl
  | _ => rfl

end Sys2Proof

namespace Sys2Proof

/-! ### The decoder looks at no byte after the instruction (R101) -/

theorem Form.finish_append (f : Form) (n : Nat) (p r : List Byte) (h : f.finish n p ≠ .more) :
    f.finish n (p ++ r) = f.finish n p := by
  cases f with
  | op => rfl
  | n | e | d =>
    cases p with
    | nil => exact absurd rfl h
    | cons => rfl
  | nn | dn =>
    rcases p with _ | ⟨v, _ | ⟨w, p⟩⟩
    · exact absurd rfl h
    · exact absurd rfl h
    · rfl

theorem decodeEscape_append (table : List (Byte × Form)) (b : Byte) (p r : List Byte)
    (h : decodeEscape table b p ≠ .more) : decodeEscape table b (p ++ r) = decodeEscape table b p := by
  cases p with
  | nil => exact absurd rfl h
  | cons b1 p =>
    simp only [decodeEscape, List.cons_append] at h ⊢
    cases hl : lookup table b1 with
    | none => rfl
    | some f => rw [hl] at h; exact f.finish_append 2 p r h

theorem decodeIndex_append (table bits : List (Byte × Form)) (b : Byte) (p r : List Byte)
    (h : decodeIndex table bits b p ≠ .more) : decodeIndex table bits b (p ++ r) = decodeIndex table bits b p := by
  cases p with
  | nil => exact absurd rfl h
  | cons b1 p =>
    simp only [decodeIndex, List.cons_append] at h ⊢
    by_cases hb : b1 = 0xCB#8
    · simp only [hb, if_true] at h ⊢
      rcases p with _ | ⟨b2, _ | ⟨b3, p⟩⟩
      · exact absurd rfl h
      · exact absurd rfl h
      · rfl
    · simp only [hb, if_false] at h ⊢
      cases hl : lookup table b1 with
      | none => rfl
      | some f => rw [hl] at h; exact f.finish_append 2 p r h

/-- Bytes that the decoder has an answer for have it whatever follows them. -/
theorem decode_append (p r : List Byte) (h : decode p ≠ .more) : decode (p ++ r) = decode p := by
  cases p with
  | nil => exact absurd rfl h
  | cons b p =>
    simp only [decode, List.cons_append] at h ⊢
    split_ifs at h ⊢
    · exact decodeEscape_append _ _ p r h
    · exact decodeEscape_append _ _ p r h
    · exact decodeIndex_append _ _ _ p r h
    · exact decodeIndex_append _ _ _ p r h
    · cases hl : lookup baseTable b with
      | none => rfl
      | some f => rw [hl] at h; exact f.finish_append 1 p r h

theorem Form.finish_length {f : Form} {n k : Nat} {p : List Byte} {i : Instr} (h : f.finish n p = .done i k) :
    k ≤ n + p.length ∧ k ≤ n + 2 := by
  cases f with
  | op => cases h; omega
  | n | e | d =>
    cases p with
    | nil => cases h
    | cons => cases h; simp
  | nn | dn =>
    rcases p with _ | ⟨v, _ | ⟨w, p⟩⟩
    · cases h
    · cases h
    · cases h; simp

theorem decodeEscape_length {table : List (Byte × Form)} {b : Byte} {p : List Byte} {i : Instr} {n : Nat}
    (h : decodeEscape table b p = .done i n) : n ≤ p.length + 1 ∧ n ≤ 4 := by
  cases p with
  | nil => cases h
  | cons b1 p =>
    simp only [decodeEscape] at h
    cases hl : lookup table b1 with
    | none => rw [hl] at h; cases h
    | some f =>
      rw [hl] at h
      have := Form.finish_length h
      simp only [List.length_cons]
      omega

theorem decodeIndex_length {table bits : List (Byte × Form)} {b : Byte} {p : List Byte} {i : Instr} {n : Nat}
    (h : decodeIndex table bits b p = .done i n) : n ≤ p.length + 1 ∧ n ≤ 4 := by
  cases p with
  | nil => cases h
  | cons b1 p =>
    simp only [decodeIndex] at h
    by_cases hb : b1 = 0xCB#8
    · simp only [hb, if_true] at h
      rcases p with _ | ⟨b2, _ | ⟨b3, p⟩⟩
      · cases h
      · cases h
      · simp only at h
        split at h
        · cases h; simp
        · cases h
        · cases h
    · simp only [hb, if_false] at h
      cases hl : lookup table b1 with
      | none => rw [hl] at h; cases h
      | some f =>
        rw [hl] at h
        have := Form.finish_length h
        simp only [List.length_cons]
        omega

/-- An instruction is made of bytes that are there, four of them at most (R100). -/
theorem decode_length {p : List Byte} {i : Instr} {n : Nat} (h : decode p = .done i n) : n ≤ p.length ∧ n ≤ 4 := by
  cases p with
  | nil => cases h
  | cons b p =>
    simp only [decode] at h
    split_ifs at h
    · exact decodeEscape_length h
    · exact decodeEscape_length h
    · exact decodeIndex_length h
    · exact decodeIndex_length h
    · cases hl : lookup baseTable b with
      | none => rw [hl] at h; cases h
      | some f =>
        rw [hl] at h
        have := Form.finish_length h
        simp only [List.length_cons]
        omega

/-- Of the bytes of an instruction all but the last leave the decoder asking for more (R101). -/
theorem decode_more_of_done {p r : List Byte} {i : Instr} (h : decode (p ++ r) = .done i (p ++ r).length) (hr : r ≠ []) :
    decode p = .more := by
  by_contra hm
  have hp : (p ++ r).length ≤ p.length := (decode_length (i := i) (by rw [← decode_append p r hm, h])).1
  rw [List.length_append] at hp
  exact hr (List.length_eq_zero_iff.mp (by omega))

end Sys2Proof

namespace Sys2Proof.Machine

/-- A fetch of bytes that stand in storage and decode takes exactly those and changes nothing (R81). -/
theorem fetchFrom_holds {s : State} {i : Instr} (rest got : List Byte) (n : Nat)
    (hd : decode (got ++ rest) = .done i (got ++ rest).length)
    (hs : s.holdsAt (s.pc + BitVec.ofNat 16 got.length) rest = true) (hn : rest.length < n) :
    fetchFrom n got s = .next ((i, got ++ rest), s) := by
  induction rest generalizing got n with
  | nil =>
    obtain ⟨m, rfl⟩ := Nat.exists_eq_succ_of_ne_zero (Nat.ne_of_gt hn)
    rw [List.append_nil] at hd ⊢
    simp only [fetchFrom, hd]
  | cons b rest ih =>
    obtain ⟨m, rfl⟩ := Nat.exists_eq_succ_of_ne_zero (Nat.ne_of_gt (Nat.zero_lt_of_lt hn))
    simp only [State.holdsAt, Bool.and_eq_true, beq_iff_eq, Bool.not_eq_true'] at hs
    obtain ⟨⟨⟨he, hdev⟩, hb⟩, hrest⟩ := hs
    have hread : memRead (s.pc + BitVec.ofNat 16 got.length) s = .next (b, s) := by
      rw [memRead, readPlace_ok he]
      simp [State.readValue, State.sawRead, hdev, hb]
    simp only [fetchFrom, decode_more_of_done hd (List.cons_ne_nil b rest), hread, withValue_next]
    rw [List.append_cons got b rest] at hd ⊢
    refine ih (got ++ [b]) m hd ?_ (by simpa using hn)
    rw [List.length_append, List.length_singleton, BitVec.ofNat_add, ← BitVec.add_assoc]
    exact hrest

/-! ### The register exchanges -/

/-- The next address as the meanings compute it (R12). -/
theorem nextPc_eq {i : Instr} {n : Nat} (h : (encode i).length = n) (s : State) :
    nextPc i s = (s.advance n).pc := by
  rw [State.advance_pc, nextPc, h, ← Nat.cast_add, trunc16_natCast, BitVec.ofNat_add, BitVec.ofNat_toNat,
    BitVec.setWidth_eq]

theorem swapDeHl_frame (s : State) :
    Frame { Changed.none with regs := [.d, .e, .h, .l] } s (s.swapDeHl.advance 1) where
  regs r hr := by
    cases r with
    | a | b | c => rfl
    | d | e | h | l => simp at hr
  flags _ := rfl
  index x _ := by cases x <;> rfl
  sp _ := rfl
  bytes _ _ := rfl
  memRegions := rfl
  ioRegions := rfl
  lines := rfl

theorem swapAf_frame (s : State) :
    Frame { Changed.none with regs := [.a], flags := true } s (s.swapAf.advance 1) where
  regs r hr := by
    cases r with
    | a => simp at hr
    | b | c | d | e | h | l => rfl
  flags h := nomatch h
  index x _ := by cases x <;> rfl
  sp _ := rfl
  bytes _ _ := rfl
  memRegions := rfl
  ioRegions := rfl
  lines := rfl

theorem swapBanks_frame (s : State) :
    Frame { Changed.none with regs := [.b, .c, .d, .e, .h, .l] } s (s.swapBanks.advance 1) where
  regs r hr := by
    cases r with
    | a => rfl
    | b | c | d | e | h | l => simp at hr
  flags _ := rfl
  index x _ := by cases x <;> rfl
  sp _ := rfl
  bytes _ _ := rfl
  memRegions := rfl
  ioRegions := rfl
  lines := rfl

/-! ### The host's register writes (R530) -/

/-- The range that a write accepts (R530, R531). -/
theorem DebugReg.inRange_iff (g : DebugReg) (v : Int) :
    (0 ≤ v ∧ v ≤ g.top) ↔ (0 ≤ v ∧ v < (2 : Int) ^ g.size ∧ (g = .im → v ≠ 3)) := by
  cases g <;> simp [DebugReg.top, DebugReg.size] <;> omega

theorem byte_ofInt_toNat {v : Int} (h0 : 0 ≤ v) (h1 : v ≤ 255) : (BitVec.ofInt 8 v).toNat = v.toNat := by
  rw [BitVec.toNat_ofInt]; omega

theorem word_ofInt_toNat {v : Int} (h0 : 0 ≤ v) (h1 : v ≤ 65535) : (BitVec.ofInt 16 v).toNat = v.toNat := by
  rw [BitVec.toNat_ofInt]; omega

theorem Bank.marks_put (k : Bank) (q r : Reg8) (v : Byte) :
    (k.put r v).written.get q = (decide (q ∈ [r]) || k.written.get q) := by
  cases q <;> cases r <;> rfl

theorem Bank.marks_putF (k : Bank) (q : Reg8) (v : Byte) : (k.putF v).written.get q = k.written.get q := by
  cases q <;> rfl

/-- A bank after one of them was changed. -/
theorem State.bank_onBank (s : State) (p p' : Bool) (f : Bank → Bank) :
    (s.onBank p f).bank p' = if p = p' then f (s.bank p') else s.bank p' := by
  cases p <;> cases p' <;> rfl

/-- A register that is marked is shown as it is (R530). -/
theorem showReg_written {k : Bank} {r : Reg8} (s : State) (h : k.written.get r = true) : showReg k r s = (k.get r, s) := by
  rw [showReg, showByte, if_pos h]

theorem showFlags_written {k : Bank} (s : State) (h : k.written.f = Flags.all) : showFlags k s = (k.f.toByte, s) := by
  rw [showFlags, if_pos h]

theorem showPair_written {k : Bank} {q r : Reg8} (s : State) (hq : k.written.get q = true) (hr : k.written.get r = true) :
    showPair (showReg k q) (showReg k r) s = (cat (k.get q) (k.get r), s) := by
  simp only [showPair, showReg_written _ hq, showReg_written _ hr]

/-- What the host has written is what it reads (R530). -/
theorem DebugReg.show_write (g : DebugReg) {v : Int} (s : State) (h0 : 0 ≤ v) (h1 : v ≤ g.top) :
    g.show (g.write v s) = (v.toNat, g.write v s) := by
  cases g with
  | reg p q =>
    simp only [DebugReg.show, DebugReg.write, State.bank_onBank, if_true]
    rw [showReg_written _ (by simp [Bank.marks_put]), Bank.get_put_self, byte_ofInt_toNat h0 h1]
  | f p =>
    simp only [DebugReg.show, DebugReg.write, State.bank_onBank, if_true]
    rw [showFlags_written _ rfl, Bank.putF_f, Flags.toByte_ofByte, byte_ofInt_toNat h0 h1]
  | pair p q =>
    have hw := word_ofInt_toNat h0 h1
    cases q with
    | bc | de | hl =>
      simp only [DebugReg.show, DebugReg.write, State.bank_onBank, if_true]
      rw [showPair_written _ rfl rfl]
      exact Prod.ext ((congrArg BitVec.toNat (cat_hi_lo _)).trans hw) rfl
    | af =>
      simp only [DebugReg.show, DebugReg.write, State.bank_onBank, if_true, showPair]
      rw [showReg_written _ rfl, showFlags_written _ rfl, Bank.putF_f, Flags.toByte_ofByte]
      exact Prod.ext ((congrArg BitVec.toNat (cat_hi_lo _)).trans hw) rfl
  | index x => cases x <;> exact Prod.ext (word_ofInt_toNat h0 h1) rfl
  | sp | pc => exact Prod.ext (word_ofInt_toNat h0 h1) rfl
  | i | r => exact Prod.ext (byte_ofInt_toNat h0 h1) rfl
  | iff1 | iff2 =>
    obtain rfl | rfl : v = 0 ∨ v = 1 := by simp only [DebugReg.top] at h1; omega
    · rfl
    · rfl
  | im =>
    obtain rfl | rfl | rfl : v = 0 ∨ v = 1 ∨ v = 2 := by simp only [DebugReg.top] at h1; omega
    · rfl
    · rfl
    · rfl

/-- The marks of the registers of a bank after a write of the host (R54, R530). -/
theorem DebugReg.write_marks (g : DebugReg) (v : Int) (s : State) (p : Bool) (q : Reg8) :
    ((g.write v s).bank p).written.get q = (decide (q ∈ (g.covers p).1) || (s.bank p).written.get q) := by
  cases g with
  | reg p' r =>
    simp only [DebugReg.write, State.bank_onBank, DebugReg.covers]
    split <;> simp [Bank.marks_put]
  | f p' =>
    simp only [DebugReg.write, State.bank_onBank, DebugReg.covers]
    split <;> simp [Bank.marks_putF]
  | pair p' r =>
    cases r <;> simp only [DebugReg.write, State.bank_onBank, DebugReg.covers] <;> split <;>
      simp [Bank.marks_put, Bank.marks_putF, ← Bool.or_assoc, Bool.or_comm]
  | index x => cases x <;> simp [DebugReg.write, DebugReg.covers, State.bank, State.setIndex]
  | sp | pc | i | r | iff1 | iff2 | im => simp [DebugReg.write, DebugReg.covers, State.bank]

/-- The marks of the bits of F of a bank after a write of the host (R37, R54). -/
theorem DebugReg.write_flagMarks (g : DebugReg) (v : Int) (s : State) (p : Bool) :
    ((g.write v s).bank p).written.f = if (g.covers p).2 then Flags.all else (s.bank p).written.f := by
  have put : ∀ (k : Bank) (r : Reg8) (b : Byte), (k.put r b).written.f = k.written.f := by
    intro k r b; cases r <;> rfl
  cases g with
  | reg p' r =>
    simp only [DebugReg.write, State.bank_onBank, DebugReg.covers]
    split <;> simp [put]
  | f p' =>
    simp only [DebugReg.write, State.bank_onBank, DebugReg.covers]
    split <;> simp_all [Bank.putF]
  | pair p' r =>
    cases r <;> simp only [DebugReg.write, State.bank_onBank, DebugReg.covers] <;> split <;> simp [put, Bank.putF]
  | index x => cases x <;> rfl
  | sp | pc | i | r | iff1 | iff2 | im => rfl

/-- The registers of a bank outside the name are as before. -/
theorem DebugReg.write_get (g : DebugReg) (v : Int) (s : State) (p : Bool) (q : Reg8) (h : q ∉ (g.covers p).1) :
    ((g.write v s).bank p).get q = (s.bank p).get q := by
  cases g with
  | reg p' r =>
    simp only [DebugReg.write, State.bank_onBank, DebugReg.covers] at h ⊢
    split <;> simp_all [Bank.get_put]
  | f p' =>
    simp only [DebugReg.write, State.bank_onBank]
    split <;> simp
  | pair p' r =>
    cases r <;> simp only [DebugReg.write, State.bank_onBank, DebugReg.covers] at h ⊢ <;> split <;>
      simp_all [Bank.get_put]
  | index x => cases x <;> rfl
  | sp | pc | i | r | iff1 | iff2 | im => rfl

/-- F outside the name is as before. -/
theorem DebugReg.write_f (g : DebugReg) (v : Int) (s : State) (p : Bool) (h : (g.covers p).2 = false) :
    ((g.write v s).bank p).f = (s.bank p).f := by
  cases g with
  | reg p' r =>
    simp only [DebugReg.write, State.bank_onBank]
    split <;> simp
  | f p' =>
    simp only [DebugReg.write, State.bank_onBank, DebugReg.covers] at h ⊢
    split <;> simp_all
  | pair p' r =>
    cases r <;> simp only [DebugReg.write, State.bank_onBank, DebugReg.covers] at h ⊢ <;> split <;> simp_all
  | index x => cases x <;> rfl
  | sp | pc | i | r | iff1 | iff2 | im => rfl

/-- What a write of the host does outside the two banks: the marks of the word registers, and the named register only. -/
theorem DebugReg.write_outside (g : DebugReg) (v : Int) (s t : State) (ht : t = g.write v s) :
    t.fault = s.fault ∧ t.halted = s.halted ∧ t.eiShadow = s.eiShadow ∧ t.boundaryUsed = s.boundaryUsed ∧
      t.bus = s.bus ∧ t.lines = s.lines ∧
      t.written = { ix := g == .index .ix || s.written.ix, iy := g == .index .iy || s.written.iy
                    sp := g == .sp || s.written.sp } ∧
      (g ≠ .pc → t.pc = s.pc) ∧ (g ≠ .sp → t.sp = s.sp) ∧ (g ≠ .index .ix → t.ix = s.ix) ∧
      (g ≠ .index .iy → t.iy = s.iy) ∧ (g ≠ .i → t.i = s.i) ∧ (g ≠ .r → t.r = s.r) ∧ (g ≠ .im → t.im = s.im) ∧
      (g ≠ .iff1 → t.iff1 = s.iff1) ∧ (g ≠ .iff2 → t.iff2 = s.iff2) := by
  subst ht
  have other : ∀ h : DebugReg, g ≠ h → (g == h) = false := fun h hn => beq_false_of_ne hn
  cases g with
  | reg p r | f p => cases p <;> simp [DebugReg.write, State.onBank, other]
  | pair p q => cases p <;> cases q <;> simp [DebugReg.write, State.onBank, other]
  | index x => cases x <;> simp [DebugReg.write, State.setIndex, other]
  | sp | pc | i | r | iff1 | iff2 | im => simp [DebugReg.write, State.setSp, other]

/-! ### The accesses of each meaning (R86) -/

@[simp] theorem State.sawRead_hl (s : State) (p : Place) : (s.sawRead p).hl = s.hl := by simp [State.hl]
@[simp] theorem State.sawRead_de (s : State) (p : Place) : (s.sawRead p).de = s.de := by simp [State.de]
@[simp] theorem State.sawReadWord_sp (s : State) (a : Word) : (s.sawReadWord a).sp = s.sp := by simp [State.sawReadWord]
@[simp] theorem State.sawReadWord_hl (s : State) (a : Word) : (s.sawReadWord a).hl = s.hl := by simp [State.sawReadWord]
@[simp] theorem State.sawReadWord_index (s : State) (a : Word) (x : Index) : (s.sawReadWord a).index x = s.index x := by
  simp [State.sawReadWord]

theorem inc8_res (v : Byte) : (inc8 v).res = v + 1 := BitVec.eq_of_toNat_eq (by simp [inc8])
theorem dec8_res (v : Byte) : (dec8 v).res = v - 1 := (byte_sub_one v).symm

section Runs

variable (s : State)

theorem loadReg_runs (r : Reg8) (a : Word) (len : Nat) : Runs (loadReg r a len s) s (wantRead a) :=
  Runs.read (Runs.none rfl)

theorem storeByte_runs (a : Word) (v : Byte) (len : Nat) : Runs (storeByte a v len s) s (wantWrite a v) :=
  Runs.write (Runs.none rfl)

theorem loadPair_runs (p : Pair) (a : Word) (len : Nat) : Runs (loadPair p a len s) s (wantRead16 a) :=
  Runs.read16 (l := []) (Runs.none (by simp))

theorem loadIndex_runs (x : Index) (a : Word) : Runs (loadIndex x a s) s (wantRead16 a) :=
  Runs.read16 (l := []) (Runs.none (by simp))

theorem storeWord_runs (a v : Word) (len : Nat) : Runs (storeWord a v len s) s (wantWrite16 a v) :=
  Runs.write16 (l := []) (Runs.none rfl)

theorem pushWord_runs (v : Word) (len : Nat) : Runs (pushWord v len s) s (wantPush v s) :=
  Runs.push (l := []) (Runs.none rfl)

theorem popPair_runs (q : StackPair) : Runs (popPair q s) s (wantRead16 s.sp) :=
  Runs.pop (l := []) (Runs.none (by simp))

theorem popIndex_runs (x : Index) : Runs (popIndex x s) s (wantRead16 s.sp) :=
  Runs.pop (l := []) (Runs.none (by simp))

theorem callTo_runs (target : Word) (len : Nat) :
    Runs (callTo target len s) s (wantPush (s.pc + BitVec.ofNat 16 len) s) :=
  Runs.push (l := []) (Runs.none rfl)

theorem returnTo_runs : Runs (returnTo s) s (wantRead16 s.sp) := Runs.pop (l := []) (Runs.none rfl)

theorem returnFromInterrupt_runs : Runs (returnFromInterrupt s) s (wantRead16 s.sp) :=
  Runs.pop (l := []) (Runs.none rfl)

theorem exchangeHl_runs : Runs (exchangeHl s) s (wantRead16 s.sp ++ wantWrite16 s.sp s.hl) := by
  refine Runs.read16 ?_
  rw [State.sawReadWord_sp, State.sawReadWord_hl]
  exact Runs.write16 (l := []) (Runs.none rfl)

theorem exchangeIndex_runs (x : Index) :
    Runs (exchangeIndex x s) s (wantRead16 s.sp ++ wantWrite16 s.sp (s.index x)) := by
  refine Runs.read16 ?_
  rw [State.sawReadWord_sp, State.sawReadWord_index]
  exact Runs.write16 (l := []) (Runs.none (by simp))

theorem blockEnd_runs {t : State} (again : Bool) (h : t.bus = s.bus) : Runs (blockEnd again t) s [] := by
  cases again with
  | true => exact Runs.none h
  | false => exact Runs.none h

theorem transfer_runs (dir : Dir) (rep : Bool) :
    Runs (transfer dir rep s) s (wantRead s.hl ++ wantWrite s.de (s.readValue (.mem s.hl))) := by
  refine Runs.read ?_
  rw [State.sawRead_de]
  exact Runs.write (blockEnd_runs _ _ rfl)

theorem search_runs (dir : Dir) (rep : Bool) : Runs (search dir rep s) s (wantRead s.hl) :=
  Runs.read (blockEnd_runs _ _ rfl)

theorem blockIn_runs (dir : Dir) (rep : Bool) :
    Runs (blockIn dir rep s) s (.read (.io s.main.c) :: wantWrite s.hl (s.readValue (.io s.main.c))) := by
  refine Runs.read ?_
  rw [State.sawRead_hl]
  exact Runs.write (blockEnd_runs _ _ rfl)

theorem blockOut_runs (dir : Dir) (rep : Bool) :
    Runs (blockOut dir rep s) s (wantRead s.hl ++ [.write (.io s.main.c) (s.readValue (.mem s.hl))]) := by
  refine Runs.read ?_
  rw [State.sawRead_main]
  exact Runs.congr (u := (s.sawRead (.mem s.hl)).setReg8 .b (s.main.b - 1)) rfl rfl rfl
    (Runs.write (blockEnd_runs _ _ rfl))

theorem aluMem_runs (op : AluOp) (a : Word) (len : Nat) : Runs (aluMem op a len s) s (wantRead a) :=
  Runs.read (Runs.none (by simp))

theorem testMem_runs (b : Fin 8) (a : Word) (len : Nat) : Runs (testMem b a len s) s (wantRead a) :=
  Runs.read (Runs.none rfl)

theorem changeByte_runs (g : Byte → Byte) (a : Word) (len : Nat) : Runs (changeByte g a len s) s (wantUpdate g a s) :=
  Runs.read (Runs.write (Runs.none rfl))

theorem updateByte_runs {g : Byte → ByteResult} {h : Byte → Byte} (e : ∀ v, (g v).res = h v) (a : Word) (len : Nat) :
    Runs (updateByte g a len s) s (wantUpdate h a s) := by
  obtain rfl : (fun v => (g v).res) = h := funext e
  exact Runs.read (Runs.write (Runs.none rfl))

theorem rotateDigits_runs (f : Byte → Byte → Byte × Byte) :
    Runs (rotateDigits f s) s (wantUpdate (fun v => (f s.main.a v).2) s.hl s) := by
  refine Runs.read ?_
  rw [State.sawRead_hl, State.sawRead_main]
  exact Runs.write (Runs.none rfl)

theorem countB_runs (e : Int) : Runs (countB e s) s [] := by
  unfold countB
  split
  · exact Runs.none rfl
  · exact Runs.none rfl

theorem inputA_runs (n : Byte) : Runs (inputA n s) s [.read (.io n)] := Runs.read (Runs.none rfl)

theorem inputReg_runs (r : Reg8) : Runs (inputReg r s) s [.read (.io s.main.c)] := Runs.read (Runs.none rfl)

theorem outputByte_runs (port v : Byte) : Runs (outputByte port v s) s [.write (.io port) v] :=
  Runs.write (Runs.none rfl)

end Runs

end Sys2Proof.Machine

namespace Sys2Proof

open Sys2Proof.Machine

/-- Every meaning makes exactly the accesses R86 lists for it, in order, up to the first that fails (R80, R504). -/
theorem Family.exec_runs (f : Family) (s : State) : Runs (f.exec s) s (accesses f s) := by
  cases f with
  | ldRHl | ldRIdx | ldABc | ldADe | ldANn => exact loadReg_runs s _ _ _
  | ldHlR | ldIdxR | ldHlN | ldIdxN | ldBcA | ldDeA | ldNnA => exact storeByte_runs s _ _ _
  | ldHlFrom | ldDdFrom => exact loadPair_runs s _ _ _
  | ldXyFrom => exact loadIndex_runs s _ _
  | ldNnHl | ldNnDd | ldNnXy => exact storeWord_runs s _ _ _
  | push | pushXy => exact pushWord_runs s _ _
  | pop => exact popPair_runs s _
  | popXy => exact popIndex_runs s _
  | exSpHl => exact exchangeHl_runs s
  | exSpXy => exact exchangeIndex_runs s _
  | ldBlock => exact transfer_runs s _ _
  | cpBlock => exact search_runs s _ _
  | aluHl | aluIdx => exact aluMem_runs s _ _ _
  | incHl | incIdx => exact updateByte_runs s inc8_res _ _
  | decHl | decIdx => exact updateByte_runs s dec8_res _ _
  | shiftHl | shiftIdx => exact updateByte_runs s (fun _ => rfl) _ _
  | rld | rrd => exact rotateDigits_runs s _
  | bitHl | bitIdx => exact testMem_runs s _ _ _
  | setHl | setIdx | resHl | resIdx => exact changeByte_runs s _ _ _
  | call | rst => exact callTo_runs s _ _
  | callCc =>
    simp only [Family.exec, accesses]
    split
    · exact callTo_runs s _ _
    · exact Runs.none rfl
  | ret => exact returnTo_runs s
  | retCc =>
    simp only [Family.exec, accesses]
    split
    · exact returnTo_runs s
    · exact Runs.none rfl
  | reti | retn => exact returnFromInterrupt_runs s
  | inAN => exact inputA_runs s _
  | inRC => exact inputReg_runs s _
  | inBlock => exact blockIn_runs s _ _
  | outNA | outCR => exact outputByte_runs s _ _
  | outBlock => exact blockOut_runs s _ _
  | djnz => exact countB_runs s _
  | jpCc | jrCc =>
    simp only [Family.exec, accesses]
    split
    · exact Runs.none rfl
    · exact Runs.none rfl
  | ldDdNn | addHl | adcHl | sbcHl | incSs | decSs | ldXyNn | incXy | decXy | addXy | aluR | aluN =>
    exact Runs.none (by simp)
  | _ => exact Runs.none rfl

end Sys2Proof

namespace Sys2Proof.Machine

/-! ### The order of reads and accesses, and the strict step (R504, R506, R509) -/

theorem firstError_append (b : Bus) (l m : List Want) :
    firstError b (l ++ m) = match firstError b l with
      | some x => some x
      | none => firstError b m := by
  induction l with
  | nil => rfl
  | cons w l ih =>
    simp only [List.cons_append, firstError]
    cases b.error w with
    | some k => rfl
    | none => exact ih

theorem served_append_of_error {b : Bus} {l : List Want} {x : BusErrorKind × Place} (h : firstError b l = some x)
    (m : List Want) : served b (l ++ m) = served b l := by
  induction l with
  | nil => cases h
  | cons w l ih =>
    simp only [List.cons_append, served]
    simp only [firstError] at h
    cases hw : b.error w with
    | some k => rfl
    | none => rw [hw] at h; simp only [ih h]

/-- Reads of registers in an order: the first unwritten one ends it, before any access. -/
theorem firstUnwritten_reads (s : State) (l : List Marked) (es : List Event) :
    firstUnwritten s (reads l ++ es) = match l.find? (fun m => !s.marked m) with
      | some m => some (m, [])
      | none => firstUnwritten s es := by
  induction l with
  | nil => rfl
  | cons m l ih =>
    simp only [reads, List.map_cons, List.cons_append, firstUnwritten, List.find?_cons]
    cases s.marked m with
    | true => exact ih
    | false => rfl

/-- Accesses in an order: one that fails ends it without a read. -/
theorem firstUnwritten_acts (s : State) (l : List Want) (es : List Event) :
    firstUnwritten s (acts l ++ es) = match firstError s.bus l with
      | some _ => none
      | none => (firstUnwritten s es).map (fun x => (x.1, l ++ x.2)) := by
  induction l with
  | nil => simp [acts, firstError]
  | cons w l ih =>
    simp only [acts, List.map_cons, List.cons_append, firstUnwritten, firstError]
    cases s.bus.error w with
    | some k => rfl
    | none =>
      simp only [acts] at ih
      simp only [ih]
      cases firstError s.bus l with
      | some x => rfl
      | none => simp [Function.comp_def]

/-- The accesses of `firstAccess`. -/
def firstWants (f : Family) (s : State) : List Want :=
  match f with
  | .exSpHl | .exSpXy _ => wantRead16 s.sp
  | .ldBlock _ _ | .cpBlock _ _ | .aluHl _ | .shiftHl _ | .rld | .rrd | .outBlock _ _ => wantRead s.hl
  | .aluIdx _ x d | .shiftIdx _ x d => wantRead (s.ea x d)
  | .inBlock _ _ => [.read (.io s.main.c)]
  | _ => []

theorem firstAccess_runs (f : Family) (s : State) : Runs (firstAccess f s) s (firstWants f s) := by
  cases f with simp only [firstAccess, firstWants]
  | exSpHl | exSpXy => exact Runs.read16 (l := []) (Runs.none rfl)
  | ldBlock | cpBlock | aluHl | shiftHl | rld | rrd | outBlock | aluIdx | shiftIdx | inBlock =>
    exact Runs.read (Runs.none rfl)
  | _ => exact Runs.none rfl

/-- The flag of a condition, as `order` and as `strictExec` name it (R400). -/
theorem Cond.part_eq (cc : Cond) : cc.part = [cc.mark] := by cases cc <;> rfl

theorem AluOp.carryIn_eq (op : AluOp) : op.carryIn = op.marks := by cases op <;> rfl

theorem ShiftOp.carryIn_eq (op : ShiftOp) : op.carryIn = op.marks := by cases op <;> rfl

theorem Pair.parts_eq (p : Pair) : p.parts = p.marks := by cases p <;> rfl

theorem StackPair.parts_eq (q : StackPair) : q.parts = q.marks := by cases q <;> rfl

theorem IndexPair.parts_eq (x : Index) (p : IndexPair) : p.parts x = p.marks x := by cases p <;> rfl

/-- The order of each rule, cut as `strictExec` follows it: reads, the first accesses, reads, the other accesses, reads. -/
theorem order_eq (f : Family) (s : State) : ∃ l, accesses f s = firstWants f s ++ l ∧
    order f s = reads (readsOf f s).before ++ (acts (firstWants f s) ++ (reads (readsOf f s).between ++
      (acts l ++ (reads (readsOf f s).after ++ [])))) := by
  refine ⟨(accesses f s).drop (firstWants f s).length, ?_⟩
  have nil1 : reads [] = [] := rfl
  have nil2 : acts [] = [] := rfl
  have hl : hlParts = marksHl := rfl
  cases f with simp only [order, readsOf, Reads.first, firstWants, Cond.part_eq, AluOp.carryIn_eq, ShiftOp.carryIn_eq,
    Pair.parts_eq, StackPair.parts_eq, IndexPair.parts_eq, nil1, nil2, hl, List.nil_append, List.append_nil,
    List.length_nil, List.drop_zero, true_and]
  | ldABc | ldADe | ldBcA | ldDeA => rfl
  | exSpHl | exSpXy | ldBlock | cpBlock | aluHl | aluIdx | shiftHl | shiftIdx | rld | rrd | inBlock | outBlock =>
    exact ⟨rfl, by simp [accesses, wantRead, wantRead16, wantWrite, wantWrite16, wantUpdate, reads, acts, Pair.marks]⟩
  | callCc cc nn =>
    simp only [accesses]
    split <;> simp [reads, acts]
  | retCc cc =>
    simp only [accesses]
    split <;> simp [reads, acts]
  | _ => exact (List.append_nil _).symm

/-- What accesses that are all served leave, or the BusError of the first that is not (R504). -/
theorem Runs.of_none {x : Out State} {s : State} {l : List Want} (h : Runs x s l) (e : firstError s.bus l = Option.none) :
    ∃ t, x = .next t ∧ t.bus = (s.sees l).bus := by
  unfold Runs at h
  rw [e] at h
  exact h

theorem Runs.of_some {x : Out State} {s : State} {l : List Want} {k : BusErrorKind} {p : Place} (h : Runs x s l)
    (e : firstError s.bus l = some (k, p)) :
    x = .fault (.busError k p s.pc (s.sees (served s.bus l)).bus) := by
  unfold Runs at h
  rw [e] at h
  exact h

/-- The instruction under R509 is the plain one, but where its order comes to an unwritten register before an access that
fails: there it ends, the accesses before that read performed. -/
theorem strictExec_eq (i : Instr) (s : State) :
    strictExec i s = match firstUnwritten s (order i.family s) with
      | none => exec i s
      | some (m, before) => .fault (.unwrittenRegister m.name s.pc (s.sees before).bus) := by
  obtain ⟨l, hacc, hord⟩ := order_eq i.family s
  have hfirst := firstAccess_runs i.family s
  have hexec := i.family.exec_runs s
  rw [← exec_family, hacc] at hexec
  rw [hord, firstUnwritten_reads]
  unfold strictExec unwrittenIn
  cases (readsOf i.family s).before.find? (fun m => !s.marked m) with
  | some m => rfl
  | none =>
    simp only [Option.map_none, firstUnwritten_acts]
    cases he : firstError s.bus (firstWants i.family s) with
    | some x =>
      obtain ⟨k, p⟩ := x
      rw [hfirst.of_some he, afterwards_fault, hexec.of_some (by rw [firstError_append, he]), served_append_of_error he]
    | none =>
      obtain ⟨s1, h1, hb1⟩ := hfirst.of_none he
      rw [h1, afterwards_next, firstUnwritten_reads, hb1]
      cases (readsOf i.family s).between.find? (fun m => !s.marked m) with
      | some m => simp
      | none =>
        simp only [Option.map_none, firstUnwritten_acts]
        cases he2 : firstError s.bus l with
        | some x =>
          obtain ⟨k, p⟩ := x
          rw [hexec.of_some (by rw [firstError_append, he, he2])]
          rfl
        | none =>
          obtain ⟨t, ht, hbt⟩ := hexec.of_none (by rw [firstError_append, he, he2])
          rw [ht, afterwards_next, firstUnwritten_reads, hbt]
          cases (readsOf i.family s).after.find? (fun m => !s.marked m) with
          | some m => simp
          | none => rfl

/-- No register is found unwritten where all are written. -/
theorem firstUnwritten_of_marked {s : State} (h : ∀ m, s.marked m = true) (es : List Event) :
    firstUnwritten s es = none := by
  induction es with
  | nil => rfl
  | cons e es ih =>
    cases e with
    | reg m => simp only [firstUnwritten, h m, ih, if_true]
    | access w =>
      simp only [firstUnwritten, ih]
      cases s.bus.error w <;> rfl

theorem strictExec_of_marked {i : Instr} {s : State} (h : ∀ m, s.marked m = true) : strictExec i s = exec i s := by
  rw [strictExec_eq, firstUnwritten_of_marked h]

/-- `allWritten` sets every mark (R54). -/
theorem State.marked_of_allWritten {s : State} (h : s.allWritten) (m : Marked) : s.marked m = true := by
  obtain ⟨hr, hf, hx, hy, hsp⟩ := h
  cases m with
  | reg r => exact hr r
  | flag b => rw [State.marked_flag, hf]; fin_cases b <;> rfl
  | sp => exact hsp
  | index x =>
    cases x with
    | ix => exact hx
    | iy => exact hy

/-- The marks an instruction starts with are those of the state before the fetch (R54, R81). -/
theorem begin_marked {s s1 : State} {x : Instr × List Byte} (h : fetch s = .next (x, s1)) (bytes : List Byte) (m : Marked) :
    (s1.begin bytes).marked m = s.marked m := by
  rw [fetch_keeps h]
  exact State.marked_congr (by simp) (by simp) m

/-- The strict step of a running machine (R91, R509). -/
theorem strictStep_running {s : State} (h : Running s) :
    strictStep s = withValue (fetch s) fun x s1 => strictExec x.1 (s1.begin x.2) := by
  obtain ⟨hf, hh, hn, hi⟩ := h
  simp [strictStep, hf, hh, hn, hi]

/-- The strict step where an interrupt is due (R509, R575). -/
theorem strictStep_due {s : State} (hf : s.fault = none) (hd : nmiDue s = true ∨ intDue s = true) :
    strictStep s = strictAccept s := by
  simp [strictStep, hf, hd]

theorem step_due {s : State} (hf : s.fault = none) (hd : nmiDue s = true ∨ intDue s = true) :
    step s = acceptInterrupt s := by
  simp [step, hf, hd]

/-- An acceptance reads SP only (R509). -/
theorem strictAccept_of_sp {s : State} (h : s.written.sp = true) : strictAccept s = acceptInterrupt s := by
  unfold strictAccept
  split
  · rfl
  · simp [unwrittenIn, State.marked, h]

end Sys2Proof.Machine

namespace Sys2Proof.Settled

open Sys2Proof Sys2Proof.Machine

/-- Settles O21: from what each instruction can have done. -/
theorem controlRegisterWriters : Obligations.ControlRegisterWriters := by
  unfold Obligations.ControlRegisterWriters
  intro i s t h
  cases exec_effect h with
  | plain _ hw | reti hw | retn hw =>
    obtain ⟨c, hl, hm, hio⟩ := hw.fields
    simp [c.i, c.r, c.im, c.iff1, c.iff2, c.halted, c.eiShadow, c.fault, c.boundaryUsed, hl, hm, hio]
  | _ => simp

/-- Settles O18: an acceptance and an instruction start with the EI shadow over, only EI sets it again, and EI does not halt. -/
theorem stepKeepsHaltOutsideShadow : Obligations.StepKeepsHaltOutsideShadow := by
  unfold Obligations.StepKeepsHaltOutsideShadow
  intro s t hf hh h
  cases (step_stepped h).2 with
  | accepted hd ha =>
    obtain ⟨-, -, he, hft⟩ := acceptInterrupt_next hf hd ha
    exact ⟨hft, fun _ => he⟩
  | halted h1 => exact ⟨hf, fun _ => hh h1⟩
  | @ran i bytes s1 _ hr hx ha =>
    obtain ⟨-, h2, h3, -⟩ := begin_of_fetch hx bytes
    obtain ⟨-, -, -, -, -, w1, w2, w3, -⟩ := controlRegisterWriters i _ t ha
    refine ⟨w3.trans (h3.trans hf), fun ht => ?_⟩
    by_cases hi : i = .ei
    · rw [w1 (by rw [hi]; nofun), h2, hr.2.1] at ht
      cases ht
    · exact w2 hi

/-- Settles O20: `begin` counts R, no instruction but LD R,A writes it, and no increment touches bit 7. -/
theorem refreshCounts : Obligations.Refresh := by
  unfold Obligations.Refresh
  have ran : ∀ (s s1 t : State) (i : Instr) (bytes : List Byte), fetch s = .next ((i, bytes), s1) →
      exec i (s1.begin bytes) = .next t → i ≠ .ldRA → t.r = Nat.iterate refresh (m1Fetches bytes) s.r := by
    intro s s1 t i bytes hx h hi
    obtain ⟨-, w, -⟩ := controlRegisterWriters i _ t h
    rw [w hi, (begin_of_fetch hx bytes).1]
  refine ⟨refresh_toNat, fun i => m1Fetches_eq (encode_ne_nil i), ?_, ?_⟩
  · intro s s1 t i bytes hr hx h
    rw [step_fetched hr hx] at h
    exact ran s s1 t i bytes hx h
  · intro s t h
    obtain ⟨hf, hs⟩ := step_stepped h
    cases hs with
    | accepted hd ha => exact .inl (by rw [(acceptInterrupt_next hf hd ha).1, refresh_bit7])
    | halted => exact .inl (refresh_bit7 s.r)
    | @ran i bytes s1 _ hr hx ha =>
      by_cases hi : i = .ldRA
      · exact .inr ⟨hr, bytes, s1, by rw [hx, hi]⟩
      · exact .inl (by rw [ran s s1 t i bytes hx ha hi, refresh_iterate_bit7])

/-- Settles O22: an instruction that carries any shadow bank along carries along the one it finds. -/
theorem shadowReachedOnlyByExchange : Obligations.ShadowReachedOnlyByExchange := by
  unfold Obligations.ShadowReachedOnlyByExchange
  intro i s t k h1 h2 h
  have blind : ∀ k, exec i (s.withShadow k) = .next (t.withShadow k) := by
    intro k
    have hf1 : i.family ≠ .exAf := fun e => h1 (eq_of_family_eq (by decide) e)
    have hf2 : i.family ≠ .exx := fun e => h2 (eq_of_family_eq (by decide) e)
    rw [exec_family, Family.exec_shadowed _ _ _ hf1 hf2, ← exec_family, h]
    rfl
  have ht : t = t.withShadow s.shadow := Host.Outcome.next.inj (h.symm.trans (blind s.shadow))
  exact ⟨(congrArg State.shadow ht :), blind k⟩

/-- Settles O23: `begin` ends the shadow and only EI sets it. -/
theorem eiShadowAfterACall : Obligations.EiShadowAfterACall := by
  unfold Obligations.EiShadowAfterACall
  intro s s1 t i bytes hr hx h
  rw [step_fetched hr hx] at h
  by_cases hi : i = .ei
  · subst hi
    cases h
    rfl
  · obtain ⟨-, -, -, -, -, -, w, -⟩ := controlRegisterWriters i _ t h
    rw [w hi, decide_eq_false hi, State.begin_eiShadow]

/-- Settles O24: from the mark of each register after an instruction, and from the exchanges as they stand. -/
theorem marksAreKept : Obligations.MarksAreKept := by
  unfold Obligations.MarksAreKept
  intro i s t h
  refine ⟨fun h1 h2 h3 => ?_, ?_, ?_, ?_⟩
  · obtain ⟨hm, hs⟩ := exec_marked h h1 h2 h3
    exact ⟨marksKept_of_marked fun m hw => by rw [hm, hw, Bool.or_true], fun m hw => by simp [hm, hw],
      fun m hw => by simp [hm, hw], congrArg Bank.written hs⟩
  all_goals
    rintro rfl
    cases h
    exact ⟨rfl, rfl, rfl⟩

/-- Settles O25: `strictExec_eq` for an instruction, and the one read of an acceptance. -/
theorem strictStepAgreesWhenWritten : Obligations.StrictStepAgreesWhenWritten := by
  unfold Obligations.StrictStepAgreesWhenWritten
  refine ⟨fun s hw => ?_, ?_, ?_, fun s hf hd => ⟨fun hsp => ?_, fun hsp hm => ?_⟩⟩
  · have hm := State.marked_of_allWritten hw
    cases hf : s.fault with
    | some m => simp [strictStep, step, hf]
    | none =>
      by_cases hd : nmiDue s = true ∨ intDue s = true
      · rw [strictStep_due hf hd, step_due hf hd, strictAccept_of_sp (hm .sp)]
      · obtain ⟨hn, hi⟩ : nmiDue s = false ∧ intDue s = false := by simpa using hd
        cases hh : s.halted with
        | true =>
          rw [step_quiet hf hn hi, engineCall_halted hf hh]
          simp [strictStep, hf, hn, hi, hh]
        | false =>
          have hr : Running s := ⟨hf, hh, hn, hi⟩
          rw [strictStep_running hr, step_running hr]
          cases hx : fetch s with
          | fault r => rfl
          | refused r => rfl
          | next x => exact strictExec_of_marked fun m => (begin_marked hx _ m).trans (hm m)
  · rintro s s1 u i bytes hr hx rfl
    have hs : strictStep s = strictExec i (s1.begin bytes) := by rw [strictStep_running hr, hx, withValue_next]
    obtain ⟨-, -, -, hpc⟩ := begin_of_fetch hx bytes
    rw [hs, strictExec_eq, step_fetched hr hx, hpc]
    cases firstUnwritten (s1.begin bytes) (order i.family (s1.begin bytes)) <;> rfl
  · intro s r hr hx
    rw [strictStep_running hr, hx, withValue_fault]
  · rw [strictStep_due hf hd, step_due hf hd, strictAccept_of_sp hsp]
  · have readsSp : (!nmiDue s && s.im == .im0 && !isRst s.lines.intData) = false := by
      rw [isRst_eq]
      rcases hm with h | h | h <;> simp [h]
    rw [strictStep_due hf hd]
    simp [strictAccept, readsSp, unwrittenIn, State.marked, hsp, Marked.name]

/-- Settles O26: name by name, what a write changes and what a read then shows. -/
theorem hostRegisterWrite : Obligations.HostRegisterWrite := by
  unfold Obligations.HostRegisterWrite
  refine ⟨fun name v s h => by simp [setRegisterValue, getRegisterValue, h], fun name g v s h => ⟨fun hv => ?_, ?_⟩⟩
  · have out : ¬ (0 ≤ v ∧ v ≤ g.top) := by
      rw [g.inRange_iff v]
      rintro ⟨h0, h1, h3⟩
      rcases hv with hv | hv | ⟨hg, hv⟩
      · omega
      · omega
      · exact h3 hg hv
    simp [setRegisterValue, h, out]
  · intro h0 h1 h3
    have range : 0 ≤ v ∧ v ≤ g.top := (g.inRange_iff v).mpr ⟨h0, h1, h3⟩
    obtain ⟨hf, hh, he, hb, hbus, hl, hw, rest⟩ := g.write_outside v s _ rfl
    refine ⟨g.write v s, by simp [setRegisterValue, h, range], ?_, hf, hh, he, hb, hbus, hl, g.write_marks v s,
      g.write_flagMarks v s, hw, g.write_get v s, g.write_f v s, rest⟩
    simp [getRegisterValue, h, g.show_write s range.1 range.2]

/-- Settles O37: the three exchanges as they stand, each undone by itself. -/
theorem exchangeRegisters : Obligations.ExchangeRegisters := by
  unfold Obligations.ExchangeRegisters
  intro i s
  refine ⟨fun h => ?_, fun h => ?_, fun h => ?_, fun t u h ht hu => ?_⟩
  · obtain rfl : i = .exDeHl := eq_of_family_eq (by decide) h
    exact ⟨_, rfl, rfl, rfl, (nextPc_eq (n := 1) rfl s).symm, rfl, swapDeHl_frame s,
      by constructor <;> rfl⟩
  · obtain rfl : i = .exAfAf := eq_of_family_eq (by decide) h
    exact ⟨_, rfl, rfl, rfl, rfl, (nextPc_eq (n := 1) rfl s).symm, rfl, swapAf_frame s,
      by constructor <;> rfl⟩
  · obtain rfl : i = .exx := eq_of_family_eq (by decide) h
    refine ⟨_, rfl, fun r hr => ?_, rfl, rfl, (nextPc_eq (n := 1) rfl s).symm, rfl, swapBanks_frame s,
      by constructor <;> rfl⟩
    cases r with
    | a => contradiction
    | b | c | d | e | h | l => exact ⟨rfl, rfl⟩
  · have pc2 : s.pc + BitVec.ofNat 16 1 + BitVec.ofNat 16 1 = trunc16 (s.pc.toNat + 2) := by
      rw [word_add_two, BitVec.add_assoc]
      rfl
    rw [← pc2]
    rcases h with h | h | h
    · obtain rfl : i = .exDeHl := eq_of_family_eq (by decide) h
      cases ht; cases hu; rfl
    · obtain rfl : i = .exAfAf := eq_of_family_eq (by decide) h
      cases ht; cases hu; rfl
    · obtain rfl : i = .exx := eq_of_family_eq (by decide) h
      cases ht; cases hu; rfl

/-- Settles O7: the fetch takes the bytes in storage one by one. -/
theorem stepRunsTheDecodedInstruction : Obligations.StepRunsTheDecodedInstruction := by
  unfold Obligations.StepRunsTheDecodedInstruction
  intro s i bytes hr _ hd hs
  have hx : fetch s = .next ((i, bytes), s) :=
    fetchFrom_holds bytes [] 5 hd (by simpa using hs) (Nat.lt_succ_of_le (decode_length hd).2)
  rw [step_fetched hr hx, State.begin, State.ticks_eq]

/-- Settles O9: each of the three looks at the mark first. -/
theorem faultedStateHasNoStep : Obligations.FaultedStateHasNoStep := by
  unfold Obligations.FaultedStateHasNoStep
  intro s m h
  simp [step, engineCall, acceptInterrupt, h]

/-- Settles O10: a halted call is one increment of R, and without IFF1 and NMI no interrupt is due. -/
theorem haltedEngineCall : Obligations.HaltedEngineCall := by
  unfold Obligations.HaltedEngineCall
  rintro s t hf hh rfl
  have call : engineCall s = .next { s with r := refresh s.r, boundaryUsed := false } := engineCall_halted hf hh
  refine ⟨call, fun h1 hn => ⟨by simp [ended, hf, hh, h1, hn], ?_, by simp [ended, hf, hh, h1, hn]⟩⟩
  rw [step_quiet hf (by simp [nmiDue, hn]) (by simp [intDue, h1]), call]

/-- Settles O19: the reset state, field by field. -/
theorem resetState : Obligations.ResetState := by
  unfold Obligations.ResetState
  decide

end Sys2Proof.Settled

end

section
/-! SUPPORT. The proofs of the statements on memory and the accesses (20_memory.md): what a step may answer, where a fetch
stops, what each update of State leaves unchanged, and the loads, stores, stack and port instructions. -/

namespace Sys2Proof.Machine

/-! ### The storage after accesses (R70, R88) -/

/-- The canonical form is one of the bus alone. -/
theorem State.canonical_of_bus {s t : State} (h : t.bus = s.bus) : t.canonical = s.canonical := by
  simp only [State.canonical, h]

theorem State.saw_canonical {s : State} (w : Want) (hc : s.canonical = true) : (s.saw w).canonical = true := by
  cases w with
  | read p => exact (s.sawRead_canonical p).trans hc
  | write p v => exact s.sawWrite_canonical p v hc

theorem State.sees_canonical {s : State} (l : List Want) (hc : s.canonical = true) : (s.sees l).canonical = true := by
  induction l generalizing s with
  | nil => exact hc
  | cons w l ih => exact ih (State.saw_canonical w hc)

/-! ### The kinds of bus error (R77, R502) -/

theorem Bus.readError_ne_unsupportedWidth {b : Bus} {p : Place} {k : BusErrorKind} (h : b.readError p = some k) :
    k ≠ .unsupportedWidth := by
  rintro rfl
  unfold Bus.readError at h
  split at h
  · cases h
  · split at h <;> cases h

theorem Bus.writeError_ne_unsupportedWidth {b : Bus} {p : Place} {k : BusErrorKind} (h : b.writeError p = some k) :
    k ≠ .unsupportedWidth := by
  rintro rfl
  unfold Bus.writeError at h
  split at h
  · cases h
  · split at h <;> cases h

theorem firstError_ne_unsupportedWidth {b : Bus} {l : List Want} {k : BusErrorKind} {p : Place}
    (h : firstError b l = some (k, p)) : k ≠ .unsupportedWidth := by
  induction l with
  | nil => cases h
  | cons w l ih =>
    simp only [firstError] at h
    cases hw : b.error w with
    | none => rw [hw] at h; exact ih h
    | some e =>
      rw [hw] at h
      cases h
      cases w with
      | read => exact Bus.readError_ne_unsupportedWidth hw
      | write => exact Bus.writeError_ne_unsupportedWidth hw

/-! ### What a step may answer (R77, R88, R500, R507) -/

/-- The outcomes open to a step from `s` that is not faulted: a state whose storage is canonical if that of `s` is, or a
failure of the engine at the PC of `s`. -/
inductive Lawful (s : State) : Out State → Prop where
  | next {t : State} (h : s.canonical = true → t.canonical = true) : Lawful s (.next t)
  | invalidOpcode (bytes : List Byte) (bus : Bus) : Lawful s (.fault (.invalidOpcode bytes s.pc bus))
  | busError {k : BusErrorKind} (hk : k ≠ .unsupportedWidth) (p : Place) (bus : Bus) :
    Lawful s (.fault (.busError k p s.pc bus))

/-- What is lawful from a later state of the same instruction is so from `s`. -/
theorem Lawful.carry {s u : State} {x : Out State} (h : Lawful u x) (hp : u.pc = s.pc)
    (hc : s.canonical = true → u.canonical = true) : Lawful s x := by
  cases h with
  | next h => exact .next fun hs => h (hc hs)
  | invalidOpcode bytes bus => exact hp ▸ .invalidOpcode bytes bus
  | busError hk p bus => exact hp ▸ .busError hk p bus

/-- A meaning that is followed by its accesses. -/
theorem Runs.lawful {s : State} {x : Out State} {l : List Want} (h : Runs x s l) : Lawful s x := by
  cases he : firstError s.bus l with
  | none =>
    obtain ⟨t, rfl, hb⟩ := h.of_none he
    exact .next fun hc => (State.canonical_of_bus hb).trans (State.sees_canonical l hc)
  | some e =>
    obtain ⟨k, p⟩ := e
    rw [h.of_some he]
    exact .busError (firstError_ne_unsupportedWidth he) p _

/-- Every instruction makes exactly the accesses R86 lists for it. -/
theorem exec_runs (i : Instr) (s : State) : Runs (exec i s) s (accesses i.family s) := by
  rw [exec_family]
  exact i.family.exec_runs s

theorem takeInterrupt_lawful {target : State → Out (Word × State)} {l : State → List Want}
    (h : ∀ u, Runs (withValue (target u) fun v t => .next (t.jump v)) u (l u)) (s : State) :
    Lawful s (takeInterrupt target s) := by
  unfold takeInterrupt
  exact (Runs.push (h _)).lawful.carry rfl id

/-- Taking an interrupt whose target is fixed. -/
theorem takeInterrupt_fixed_lawful (a : Word) (s : State) : Lawful s (takeInterrupt (fun t => .next (a, t)) s) :=
  takeInterrupt_lawful (target := fun t => .next (a, t)) (l := fun _ => []) (fun _ => Runs.none rfl) s

theorem acceptNmi_lawful (s : State) : Lawful s (acceptNmi s) :=
  (takeInterrupt_fixed_lawful 0x0066#16 _).carry rfl id

theorem acceptInt_lawful (s : State) : Lawful s (acceptInt s) := by
  have fixed : ∀ a : Word, Lawful s (takeInterrupt (fun t => .next (a, t)) { s with iff1 := false, iff2 := false }) :=
    fun a => (takeInterrupt_fixed_lawful a _).carry rfl id
  cases him : s.im with
  | im0 =>
    rw [acceptInt_im0 him]
    split
    · exact fixed _
    · exact .invalidOpcode _ _
  | im1 => rw [acceptInt_im1 him]; exact fixed _
  | im2 =>
    rw [acceptInt_im2 him]
    exact (takeInterrupt_lawful (fun _ => Runs.read16 (l := []) (Runs.none rfl)) _).carry rfl id

theorem acceptInterrupt_lawful {s : State} (hf : s.fault = none) : Lawful s (acceptInterrupt s) := by
  simp only [acceptInterrupt, hf]
  split
  · exact acceptNmi_lawful s
  · split
    · exact acceptInt_lawful s
    · exact .next id

/-- A fetch reads only, and fails at its own bytes or at a read (R81, R501, R503). -/
theorem fetchFrom_lawful {f : Instr × List Byte → State → Out State} (hf : ∀ x u, Lawful u (f x u)) (n : Nat)
    (bytes : List Byte) (s : State) : Lawful s (withValue (fetchFrom n bytes s) f) := by
  induction n generalizing bytes s with
  | zero => exact .invalidOpcode _ _
  | succ n ih =>
    unfold fetchFrom
    split
    · exact hf _ _
    · exact .invalidOpcode _ _
    · rw [withValue_withValue, memRead, readPlace_eq]
      cases he : s.bus.readError (.mem (s.pc + BitVec.ofNat 16 bytes.length)) with
      | none => exact (ih _ _).carry (by simp) (by simp)
      | some k => exact .busError (Bus.readError_ne_unsupportedWidth he) _ _

theorem step_lawful {s : State} (hf : s.fault = none) : Lawful s (step s) := by
  by_cases hd : nmiDue s = true ∨ intDue s = true
  · rw [step_due hf hd]
    exact acceptInterrupt_lawful hf
  · obtain ⟨hn, hi⟩ : nmiDue s = false ∧ intDue s = false := by simpa using hd
    cases hh : s.halted with
    | true =>
      rw [step_quiet hf hn hi, engineCall_halted hf hh]
      exact .next id
    | false =>
      rw [step_running ⟨hf, hh, hn, hi⟩]
      refine fetchFrom_lawful (fun x u => ?_) 5 [] s
      refine (exec_runs x.1 (u.begin x.2)).lawful.carry (by simp) fun hc => ?_
      exact (State.canonical_of_bus (by simp)).trans hc

end Sys2Proof.Machine

namespace Sys2Proof

/-! ### Where the decoder stops (R100, R121) -/

/-- An answer to `len` bytes that looks at no more than them and at four at most: fewer than four where it asks for
another, and the bytes it rejects are among them (R100, R121). -/
def Decoded.Fits (len : Nat) : Decoded → Prop
  | .more => len ≤ 3
  | .invalidOpcode bs => bs.length ≤ len ∧ bs.length ≤ 4
  | .done _ _ => True

theorem Form.finish_fits (f : Form) {n : Nat} (p : List Byte) (hn : n ≤ 2) : (f.finish n p).Fits (p.length + n) := by
  cases f with
  | op => trivial
  | n | e | d =>
    cases p with
    | nil => simp only [Form.finish, Decoded.Fits, List.length_nil]; omega
    | cons => trivial
  | nn | dn =>
    rcases p with _ | ⟨v, _ | ⟨w, p⟩⟩
    · simp only [Form.finish, Decoded.Fits, List.length_nil]; omega
    · simp only [Form.finish, Decoded.Fits, List.length_singleton]; omega
    · trivial

theorem decodeEscape_fits (table : List (Byte × Form)) (b : Byte) (p : List Byte) :
    (decodeEscape table b p).Fits (p.length + 1) := by
  cases p with
  | nil => simp [decodeEscape, Decoded.Fits]
  | cons b1 p =>
    simp only [decodeEscape]
    cases lookup table b1 with
    | none => simp [Decoded.Fits]
    | some f => exact f.finish_fits p (Nat.le_refl 2)

theorem decodeIndex_fits (table bits : List (Byte × Form)) (b : Byte) (p : List Byte) :
    (decodeIndex table bits b p).Fits (p.length + 1) := by
  cases p with
  | nil => simp [decodeIndex, Decoded.Fits]
  | cons b1 p =>
    simp only [decodeIndex]
    by_cases hb : b1 = 0xCB#8
    · rw [if_pos hb]
      rcases p with _ | ⟨b2, _ | ⟨b3, p⟩⟩
      · simp [Decoded.Fits]
      · simp [Decoded.Fits]
      · simp only
        split <;> simp [Decoded.Fits]
    · rw [if_neg hb]
      cases lookup table b1 with
      | none => simp [Decoded.Fits]
      | some f => exact f.finish_fits p (Nat.le_refl 2)

theorem decode_fits (p : List Byte) : (decode p).Fits p.length := by
  cases p with
  | nil => exact Nat.zero_le 3
  | cons b p =>
    simp only [decode]
    split_ifs
    · exact decodeEscape_fits _ b p
    · exact decodeEscape_fits _ b p
    · exact decodeIndex_fits _ _ b p
    · exact decodeIndex_fits _ _ b p
    · cases lookup baseTable b with
      | none => simp [Decoded.Fits]
      | some f => exact f.finish_fits p (by omega)

/-- The decoder needs another byte, or rejects the bytes at the last of them. -/
def Stopping (bytes : List Byte) : Prop := decode bytes = .more ∨ decode bytes = .invalidOpcode bytes

theorem Stopping.length {bytes : List Byte} (h : Stopping bytes) : bytes.length ≤ 4 := by
  have fits := decode_fits bytes
  rcases h with h | h
  · rw [h] at fits; exact Nat.le_succ_of_le fits
  · rw [h] at fits; exact fits.2

/-- Before the last of them the decoder asks for more (R101). -/
theorem Stopping.more_before {p r : List Byte} (h : Stopping (p ++ r)) (hr : r ≠ []) : decode p = .more := by
  by_contra hm
  rw [Stopping, decode_append p r hm] at h
  have fits := decode_fits p
  rw [h.resolve_left hm] at fits
  have hlen := fits.1
  rw [List.length_append] at hlen
  exact hr (List.length_eq_zero_iff.mp (by omega))

end Sys2Proof

namespace Sys2Proof.Machine

/-! ### The fetch of bytes that stand in storage (R81) -/

/-- A read of a byte that stands in storage answers it and changes nothing (R73, R79). -/
theorem memRead_of_stored {s : State} {a : Word} {b : Byte} (he : s.bus.readError (.mem a) = none)
    (hd : s.bus.isDevice (.mem a) = false) (hb : s.bus.stored (.mem a) = b) : memRead a s = .next (b, s) := by
  rw [memRead, readPlace_ok he]
  simp [State.readValue, State.sawRead, hd, hb]

/-- Bytes in storage at which the decoder does not stop earlier are all fetched. -/
theorem fetchFrom_stopping {s : State} (rest got : List Byte) (n : Nat) (hd : Stopping (got ++ rest))
    (hs : s.holdsAt (s.pc + BitVec.ofNat 16 got.length) rest = true) :
    fetchFrom (n + rest.length) got s = fetchFrom n (got ++ rest) s := by
  induction rest generalizing got with
  | nil => rw [List.append_nil]; rfl
  | cons b rest ih =>
    simp only [State.holdsAt, Bool.and_eq_true, beq_iff_eq, Bool.not_eq_true'] at hs
    obtain ⟨⟨⟨he, hdev⟩, hb⟩, hrest⟩ := hs
    rw [List.length_cons, ← Nat.add_assoc]
    simp only [fetchFrom, hd.more_before (List.cons_ne_nil b rest), memRead_of_stored he hdev hb, withValue_next]
    rw [List.append_cons got b rest] at hd ⊢
    refine ih (got ++ [b]) hd ?_
    rw [List.length_append, List.length_singleton, BitVec.ofNat_add, ← BitVec.add_assoc]
    exact hrest

/-- After those bytes the fetch has fuel for one more (R100). -/
theorem fetch_stopping {s : State} {bytes : List Byte} (hd : Stopping bytes) (hs : s.holdsAt s.pc bytes = true) :
    ∃ n, fetch s = fetchFrom (n + 1) bytes s := by
  have fuel : 4 - bytes.length + 1 + bytes.length = 5 := by have := hd.length; omega
  have hx := fetchFrom_stopping bytes [] (4 - bytes.length + 1) hd (by simpa using hs)
  rw [fuel] at hx
  exact ⟨_, hx⟩

/-! ### The first failing access of an instruction (R504) -/

theorem Runs.fails_first {x : Out State} {s : State} {w : Want} {l : List Want} {k : BusErrorKind}
    (h : Runs x s (w :: l)) (hk : s.bus.error w = some k) : x = .fault (.busError k w.place s.pc s.bus) := by
  have e := h.of_some (k := k) (p := w.place) (by simp only [firstError, hk])
  simpa only [served, hk, State.sees] using e

theorem Runs.fails_second {x : Out State} {s : State} {w v : Want} {l : List Want} {k : BusErrorKind}
    (h : Runs x s (w :: v :: l)) (hw : s.bus.error w = Option.none) (hk : s.bus.error v = some k) :
    x = .fault (.busError k v.place s.pc (s.saw w).bus) := by
  have e := h.of_some (k := k) (p := v.place) (by simp only [firstError, hw, hk])
  simpa only [served, hw, hk, State.sees] using e

/-! ### The next address and the control registers -/

/-- Every row's encoding is the Encoding line of its rule (R100). -/
theorem encode_family (i : Instr) : encode i = i.family.encoding := by
  cases i <;> rfl

/-- The next address, from the length of the rule's Encoding line (R12). -/
theorem nextPc_family (i : Instr) (s : State) : nextPc i s = s.pc + BitVec.ofNat 16 i.family.encoding.length :=
  nextPc_eq (congrArg List.length (encode_family i)) s

/-- The meaning of an instruction whose family is known. -/
theorem exec_of_family {i : Instr} {f : Family} {s : State} {x : Out State} (hf : i.family = f) (hx : f.exec s = x) :
    exec i s = x := by
  rw [exec_family, hf, hx]

/-- An instruction of a plain family leaves the shadow bank, the control registers and the hidden marks alone. -/
theorem controlFrame_of_plain {i : Instr} {s t : State} (hp : i.family.plain = true) (h : exec i s = .next t) :
    ControlFrame s t := by
  rw [exec_family] at h
  exact (i.family.plain_ends s hp t h).fields.1

/-! ### The frame, one update at a time -/

namespace Frame

variable {c : Changed} {s t : State}

theorem refl (c : Changed) (s : State) : Frame c s s where
  regs _ _ := rfl
  flags _ := rfl
  index _ _ := rfl
  sp _ := rfl
  bytes _ _ := rfl
  memRegions := rfl
  ioRegions := rfl
  lines := rfl

theorem trans {u : State} (h : Frame c s t) (k : Frame c t u) : Frame c s u where
  regs r hr := (k.regs r hr).trans (h.regs r hr)
  flags hf := (k.flags hf).trans (h.flags hf)
  index x hx := (k.index x hx).trans (h.index x hx)
  sp hs := (k.sp hs).trans (h.sp hs)
  bytes p hp := (k.bytes p hp).trans (h.bytes p hp)
  memRegions := k.memRegions.trans h.memRegions
  ioRegions := k.ioRegions.trans h.ioRegions
  lines := k.lines.trans h.lines

theorem advance (h : Frame c s t) (n : Nat) : Frame c s (t.advance n) := { h with index := h.index }

theorem sawRead (h : Frame c s t) (p : Place) : Frame c s (t.sawRead p) :=
  h.trans (by constructor <;> simp)

theorem sawReadWord (h : Frame c s t) (a : Word) : Frame c s (t.sawReadWord a) := (h.sawRead _).sawRead _

theorem sawWrite (h : Frame c s t) {p : Place} (hp : p ∈ c.bytes) (v : Byte) : Frame c s (t.sawWrite p v) where
  regs := h.regs
  flags := h.flags
  index := h.index
  sp := h.sp
  bytes q hq := (t.sawWrite_stored_other p q v (ne_of_mem_of_not_mem hp hq).symm).trans (h.bytes q hq)
  memRegions := (t.sawWrite_memRegions p v).trans h.memRegions
  ioRegions := (t.sawWrite_ioRegions p v).trans h.ioRegions
  lines := h.lines

theorem sawWriteWord (h : Frame c s t) {a : Word} (h0 : Place.mem a ∈ c.bytes) (h1 : Place.mem (a + 1) ∈ c.bytes)
    (v : Word) : Frame c s (t.sawWriteWord a v) := (h.sawWrite h0 _).sawWrite h1 _

theorem setReg8 (h : Frame c s t) {r : Reg8} (hr : r ∈ c.regs) (v : Byte) : Frame c s (t.setReg8 r v) :=
  { h with
    regs := fun q hq => by
      rw [State.reg8_setReg8, if_neg (ne_of_mem_of_not_mem hr hq).symm]
      exact h.regs q hq
    flags := fun hf => (t.setReg8_f r v).trans (h.flags hf)
    index := h.index }

theorem setF (h : Frame c s t) (hf : c.flags = true) (u : FlagSet) : Frame c s (t.setF u) :=
  { h with
    regs := fun q hq => (t.reg8_setF q u).trans (h.regs q hq)
    flags := fun hn => nomatch hf.symm.trans hn
    index := h.index }

theorem setFByte (h : Frame c s t) (hf : c.flags = true) (v : Byte) : Frame c s (t.setFByte v) :=
  { h with
    regs := fun q hq => (t.reg8_setFByte q v).trans (h.regs q hq)
    flags := fun hn => nomatch hf.symm.trans hn
    index := h.index }

theorem setSp (h : Frame c s t) (hs : c.sp = true) (v : Word) : Frame c s (t.setSp v) :=
  { h with
    regs := h.regs
    index := h.index
    sp := fun hn => nomatch hs.symm.trans hn }

theorem setIndex (h : Frame c s t) {x : Index} (hx : x ∈ c.index) (v : Word) : Frame c s (t.setIndex x v) where
  regs q hq := (t.reg8_setIndex q x v).trans (h.regs q hq)
  flags hf := by rw [← h.flags hf]; cases x <;> rfl
  index y hy := by
    rw [State.index_setIndex, if_neg (ne_of_mem_of_not_mem hx hy).symm]
    exact h.index y hy
  sp hs := by rw [← h.sp hs]; cases x <;> rfl
  bytes p hp := by rw [← h.bytes p hp]; cases x <;> rfl
  memRegions := by rw [← h.memRegions]; cases x <;> rfl
  ioRegions := by rw [← h.ioRegions]; cases x <;> rfl
  lines := by rw [← h.lines]; cases x <;> rfl

theorem setPair {p : Pair} (h : Frame p.changed s t) (v : Word) : Frame p.changed s (t.setPair p v) := by
  cases p with
  | bc | de | hl => exact (h.setReg8 (by decide) _).setReg8 (by decide) _
  | sp => exact h.setSp rfl v

theorem setStackPair {q : StackPair} (h : Frame q.changed s t) (v : Word) : Frame q.changed s (t.setStackPair q v) := by
  cases q with
  | bc | de | hl => exact (h.setReg8 (by decide) _).setReg8 (by decide) _
  | af => exact (h.setReg8 (by decide) _).setFByte rfl _

end Frame

/-! ### The operand groups and the meanings they share -/

/-- The 8-bit loads from memory are one meaning (R142, R143, R148 to R150). -/
theorem byteLoad_meaning {f : Family} {s : State} {r : Reg8} {a : Word} (h : byteLoad f s = some (r, a)) :
    f.exec s = loadReg r a f.encoding.length s ∧ accesses f s = wantRead a ∧ f.plain = true := by
  cases f with
  | ldRHl | ldRIdx | ldABc | ldADe | ldANn => cases h; exact ⟨rfl, rfl, rfl⟩
  | _ => cases h

/-- So are the 8-bit stores (R144 to R147, R151 to R153). -/
theorem byteStore_meaning {f : Family} {s : State} {a : Word} {v : Byte} (h : byteStore f s = some (a, v)) :
    f.exec s = storeByte a v f.encoding.length s ∧ accesses f s = wantWrite a v ∧ f.plain = true := by
  cases f with
  | ldHlR | ldIdxR | ldHlN | ldIdxN | ldBcA | ldDeA | ldNnA => cases h; exact ⟨rfl, rfl, rfl⟩
  | _ => cases h

/-- So are the 16-bit loads of a pair (R172, R173). -/
theorem pairLoad_meaning {f : Family} {p : Pair} {a : Word} (h : pairLoad f = some (p, a)) (s : State) :
    f.exec s = loadPair p a f.encoding.length s ∧ accesses f s = wantRead16 a ∧ f.plain = true := by
  cases f with
  | ldHlFrom | ldDdFrom => cases h; exact ⟨rfl, rfl, rfl⟩
  | _ => cases h

/-- So are the 16-bit stores (R175 to R177). -/
theorem wordStore_meaning {f : Family} {s : State} {a v : Word} (h : wordStore f s = some (a, v)) :
    f.exec s = storeWord a v f.encoding.length s ∧ accesses f s = wantWrite16 a v ∧ f.plain = true := by
  cases f with
  | ldNnHl | ldNnDd | ldNnXy => cases h; exact ⟨rfl, rfl, rfl⟩
  | _ => cases h

/-- So are the pushes (R180, R181). -/
theorem pushed_meaning {f : Family} {s : State} {v : Word} (h : pushed f s = some v) :
    f.exec s = pushWord v f.encoding.length s ∧ accesses f s = wantPush v s ∧ f.plain = true := by
  cases f with
  | push | pushXy => cases h; exact ⟨rfl, rfl, rfl⟩
  | _ => cases h

/-- So are OUT (n),A and OUT (C),r (R437, R438). -/
theorem output_meaning {f : Family} {s : State} {port v : Byte}
    (h : f = .outNA port ∧ v = s.main.a ∨ ∃ r, f = .outCR r ∧ port = s.main.c ∧ v = s.reg8 r) :
    f.exec s = outputByte port v s ∧ accesses f s = [.write (.io port) v] ∧ f.encoding.length = 2 ∧ f.plain = true := by
  rcases h with ⟨rfl, rfl⟩ | ⟨r, rfl, rfl, rfl⟩ <;> exact ⟨rfl, rfl, rfl, rfl⟩

/-- IN A,(n), served (R431). -/
theorem inputA_ok {n : Byte} {s : State} (h : s.bus.readError (.io n) = none) :
    inputA n s = .next (((s.sawRead (.io n)).setReg8 .a (s.readValue (.io n))).advance 2) := by
  rw [inputA, ioRead, readPlace_ok h, withValue_next]

/-- IN r,(C), served (R432). -/
theorem inputReg_ok (r : Reg8) {s : State} (h : s.bus.readError (.io s.main.c) = none) :
    inputReg r s = .next ((((s.sawRead (.io s.main.c)).setReg8 r (s.readValue (.io s.main.c))).setF
      (resultFlags (s.readValue (.io s.main.c)) none)).advance 2) := by
  rw [inputReg, ioRead, readPlace_ok h, withValue_next]

/-- OUT, served (R437, R438). -/
theorem outputByte_ok {port : Byte} (v : Byte) {s : State} (h : s.bus.writeError (.io port) = none) :
    outputByte port v s = .next ((s.sawWrite (.io port) v).advance 2) := by
  rw [outputByte, ioWrite, writePlace_ok h, afterwards_next]

/-- The flags of a result that leaves C alone (R233, R236). -/
theorem setF_resultFlags (s : State) (v : Byte) :
    FlagsAre (s.setF (resultFlags v none)).main.f v.msb (v == 0) false (evenOnes v) false s.main.f.c := by
  rw [State.setF_f]
  exact ⟨bit7_eq_msb v, (beq_eq_decide v 0).symm, rfl, parity_eq_evenOnes v, rfl, rfl⟩

end Sys2Proof.Machine

namespace Sys2Proof.Settled

open Sys2Proof Sys2Proof.Machine

/-- Settles O17: a step that answers a state answers a lawful one. -/
theorem stepKeepsCanonicalStorage : Obligations.StepKeepsCanonicalStorage := by
  unfold Obligations.StepKeepsCanonicalStorage
  intro s t hc h
  have hl := step_lawful (step_stepped h).1
  rw [h] at hl
  cases hl with
  | next hk => exact hk hc

/-- Settles O8: the bytes in storage are fetched, and the fetch then ends at the decoder or at the next read. -/
theorem fetchStops : Obligations.FetchStops := by
  unfold Obligations.FetchStops
  intro s bytes hr hs
  refine ⟨fun hd => ?_, fun k hd hk => ?_⟩
  · obtain ⟨n, hx⟩ := fetch_stopping (.inr hd) hs
    rw [step_running hr, hx]
    simp only [fetchFrom, hd, withValue_fault]
  · obtain ⟨n, hx⟩ := fetch_stopping (.inl hd) hs
    rw [step_running hr, hx]
    simp only [fetchFrom, hd, memRead, readPlace_fail hk, withValue_fault]

/-- Settles O11: the lawful outcomes, and the mark of a faulted state. -/
theorem stepOutcomes : Obligations.StepOutcomes := by
  unfold Obligations.StepOutcomes
  intro s
  cases hf : s.fault with
  | some m => exact .inr (.inr (.inr ⟨m, rfl, (faultedStateHasNoStep s m hf).1⟩))
  | none =>
    have hl := step_lawful hf
    generalize step s = x at hl ⊢
    cases hl with
    | next => exact .inl ⟨_, rfl⟩
    | invalidOpcode bytes bus => exact .inr (.inl ⟨bytes, bus, rfl⟩)
    | busError hk p bus => exact .inr (.inr (.inl ⟨_, p, bus, hk, rfl⟩))

/-- Settles O12: each shared meaning makes the accesses listed for it. -/
theorem completesOrBusError : Obligations.CompletesOrBusError := by
  unfold Obligations.CompletesOrBusError
  exact exec_runs

/-- Settles O28: the five load forms are `loadReg`. -/
theorem loadByteFromMemory : Obligations.LoadByteFromMemory := by
  unfold Obligations.LoadByteFromMemory
  intro i s r a h
  obtain ⟨hm, ha, hp⟩ := byteLoad_meaning h
  have hr := exec_runs i s
  rw [ha] at hr
  refine ⟨fun k hk => hr.fails_first hk, fun hn => ?_⟩
  have hx := (exec_family i s).trans hm
  rw [loadReg_eq, hn] at hx
  exact ⟨_, hx, by simp, by simp [nextPc_family], rfl,
    (((Frame.refl _ s).sawRead _).setReg8 (List.mem_singleton_self r) _).advance _, controlFrame_of_plain hp hx⟩

/-- Settles O29: the seven store forms are `storeByte`. -/
theorem storeByteToMemory : Obligations.StoreByte := by
  unfold Obligations.StoreByte
  intro i s a v h
  obtain ⟨hm, ha, hp⟩ := byteStore_meaning h
  have hr := exec_runs i s
  rw [ha] at hr
  refine ⟨fun k hk => hr.fails_first hk, fun hn => ?_⟩
  have hx := (exec_family i s).trans hm
  rw [storeByte_eq, hn] at hx
  exact ⟨_, hx, by simp [nextPc_family], rfl, State.sawWrite_stored_self s _ v,
    ((Frame.refl _ s).sawWrite (List.mem_singleton_self _) v).advance _, controlFrame_of_plain hp hx⟩

/-- Settles O33: the loads of a pair are `loadPair`, that of an index register is `loadIndex`; both make one 16-bit read. -/
theorem loadWordFromMemory : Obligations.LoadWordFromMemory := by
  unfold Obligations.LoadWordFromMemory
  intro i s nn h
  have hr := exec_runs i s
  have ha : accesses i.family s = wantRead16 nn := by
    rcases h with ⟨p, hp⟩ | ⟨x, hx⟩
    · exact (pairLoad_meaning hp s).2.1
    · rw [hx]; rfl
  rw [ha] at hr
  refine ⟨fun k hk => hr.fails_first hk, fun k hn hk => hr.fails_second hn hk, fun h1 h2 => ⟨fun p hp => ?_, fun x hf => ?_⟩⟩
  · obtain ⟨hm, -, hplain⟩ := pairLoad_meaning hp s
    have hx := (exec_family i s).trans (hm.trans (loadPair_ok p _ h1 h2))
    exact ⟨_, hx, State.pair_setPair _ p _, by simp [nextPc_family, State.sawReadWord], by simp,
      controlFrame_of_plain hplain hx, (((Frame.refl _ s).sawReadWord nn).setPair _).advance _⟩
  · have hx := exec_of_family hf (loadIndex_ok x h1 h2)
    exact ⟨_, hx, by simp, by simp [nextPc_family, hf, Family.encoding, State.sawReadWord], by simp,
      controlFrame_of_plain (by rw [hf]; rfl) hx,
      (((Frame.refl _ s).sawReadWord nn).setIndex (List.mem_singleton_self x) _).advance _⟩

/-- Settles O34: the three store forms are `storeWord`. -/
theorem storeWordToMemory : Obligations.StoreWord := by
  unfold Obligations.StoreWord
  intro i s nn v h
  obtain ⟨hm, ha, hp⟩ := wordStore_meaning h
  have hr := exec_runs i s
  rw [ha] at hr
  rw [trunc8_lo, trunc8_hi]
  refine ⟨fun k hk => hr.fails_first hk, fun k hn hk => hr.fails_second hn hk, fun h1 h2 => ?_⟩
  have hx := (exec_family i s).trans hm
  rw [storeWord_eq, h1, h2] at hx
  exact ⟨_, hx, by simp [nextPc_family, State.sawWriteWord], rfl, s.sawWriteWord_stored nn v,
    ((Frame.refl _ s).sawWriteWord (by simp) (by simp) v).advance _, controlFrame_of_plain hp hx⟩

/-- Settles O35: both forms are `pushWord`. -/
theorem pushStores : Obligations.PushStores := by
  unfold Obligations.PushStores
  intro i s v h hc
  obtain ⟨hm, ha, hp⟩ := pushed_meaning h
  rw [Completes, ha] at hc
  obtain ⟨h1, h2⟩ := firstError_two hc
  have hx := (exec_family i s).trans (hm.trans (pushWord_ok v _ h1 h2))
  exact ⟨_, hx, (word_sub_two s.sp).symm, by simp [nextPc_family, State.sawWriteWord], rfl,
    fun hcan hd => storedWord_of_bus rfl hcan hd,
    (((Frame.refl _ s).setSp rfl _).sawWriteWord (by simp) (by simp) v).advance _, controlFrame_of_plain hp hx⟩

/-- Settles O36: POP qq is `popPair` and POP XY is `popIndex`. -/
theorem popLoads : Obligations.PopLoads := by
  unfold Obligations.PopLoads
  intro i s hc
  refine ⟨fun q hf => ?_, fun x hf => ?_⟩
  · rw [Completes, hf] at hc
    obtain ⟨h1, h2⟩ := firstError_two hc
    have hx := exec_of_family hf (popPair_ok q h1 h2)
    exact ⟨_, hx, State.stackPair_setStackPair _ q _, by simp [word_add_two],
      by simp [nextPc_family, hf, Family.encoding, State.sawReadWord], by simp,
      controlFrame_of_plain (by rw [hf]; rfl) hx,
      ((((Frame.refl _ s).sawReadWord _).setSp (by cases q <;> rfl) _).setStackPair _).advance _⟩
  · rw [Completes, hf] at hc
    obtain ⟨h1, h2⟩ := firstError_two hc
    have hx := exec_of_family hf (popIndex_ok x h1 h2)
    exact ⟨_, hx, by simp, by simp [word_add_two], by simp [nextPc_family, hf, Family.encoding, State.sawReadWord], by simp,
      controlFrame_of_plain (by rw [hf]; rfl) hx,
      ((((Frame.refl _ s).sawReadWord _).setSp rfl _).setIndex (List.mem_singleton_self x) _).advance _⟩

/-- Settles O58: IN A,(n) is `inputA` and IN r,(C) is `inputReg`. -/
theorem input : Obligations.Input := by
  unfold Obligations.Input
  intro i s
  have hr := exec_runs i s
  refine ⟨fun n hf => ?_, fun r hf => ?_⟩
  · rw [hf] at hr
    refine ⟨fun k hk => hr.fails_first hk, fun hn => ?_⟩
    have hx := exec_of_family hf (inputA_ok hn)
    exact ⟨_, hx, rfl, by simp [nextPc_family, hf, Family.encoding], rfl,
      (((Frame.refl _ s).sawRead _).setReg8 (List.mem_singleton_self _) _).advance _,
      controlFrame_of_plain (by rw [hf]; rfl) hx⟩
  · rw [hf] at hr
    refine ⟨fun k hk => hr.fails_first hk, fun hn => ?_⟩
    have hx := exec_of_family hf (inputReg_ok r hn)
    have hv : (((s.sawRead (.io s.main.c)).setReg8 r (s.readValue (.io s.main.c))).setF
        (resultFlags (s.readValue (.io s.main.c)) none)).reg8 r = s.readValue (.io s.main.c) := by simp
    refine ⟨_, hx, hv, ?_, by simp [nextPc_family, hf, Family.encoding], rfl,
      ((((Frame.refl _ s).sawRead _).setReg8 (List.mem_singleton_self r) _).setF rfl _).advance _,
      controlFrame_of_plain (by rw [hf]; rfl) hx⟩
    rw [State.reg8_advance, hv]
    simpa using setF_resultFlags ((s.sawRead (.io s.main.c)).setReg8 r (s.readValue (.io s.main.c)))
      (s.readValue (.io s.main.c))

/-- Settles O59: both forms are `outputByte`. -/
theorem output : Obligations.Output := by
  unfold Obligations.Output
  intro i s port v h
  obtain ⟨hm, ha, hl, hp⟩ := output_meaning h
  have hr := exec_runs i s
  rw [ha] at hr
  refine ⟨fun k hk => hr.fails_first hk, fun hn => ?_⟩
  have hx := (exec_family i s).trans (hm.trans (outputByte_ok v hn))
  exact ⟨_, hx, by simp [nextPc_family, hl], rfl, fun hd => by simp [State.sawWrite, hd, Bus.note],
    ((Frame.refl _ s).sawWrite (List.mem_singleton_self _) v).advance _, controlFrame_of_plain hp hx⟩

end Sys2Proof.Settled
end

section
/-! SUPPORT. The proofs of the statements on encoding and decoding (30_encoding.md): the keys of the opcode tables, what
each row encodes, the row that the bytes of an instruction select, and the encodings that are no instruction. -/

namespace Sys2Proof

open Sys2Proof.Machine

/-! ### Finding a row (R101) -/

theorem lookup_mem {t : List (Byte × Form)} {b : Byte} {f : Form} (h : lookup t b = some f) : (b, f) ∈ t := by
  induction t with
  | nil => cases h
  | cons r t ih =>
    rw [lookup] at h
    split at h
    next hk => cases h; rw [← hk]; exact List.mem_cons_self
    next => exact List.mem_cons_of_mem r (ih h)

theorem lookup_eq_none_iff {t : List (Byte × Form)} {b : Byte} : lookup t b = none ↔ b ∉ t.map Prod.fst := by
  induction t with
  | nil => simp [lookup]
  | cons r t ih =>
    by_cases hk : r.1 = b
    · simp [lookup, hk]
    · simp only [lookup, if_neg hk, ih, List.map_cons, List.mem_cons, not_or, Ne.symm hk, not_false_eq_true, true_and]

/-- No two rows with one key (R120): a row of the table is the row its key selects. -/
theorem lookup_of_mem {t : List (Byte × Form)} {b : Byte} {f : Form} (ht : (t.map Prod.fst).Nodup) (h : (b, f) ∈ t) :
    lookup t b = some f := by
  induction t with
  | nil => cases h
  | cons r t ih =>
    obtain ⟨hr, ht⟩ := List.nodup_cons.mp ht
    rcases List.mem_cons.mp h with rfl | h
    · exact if_pos rfl
    · have hne : r.1 ≠ b := fun e => hr (e ▸ List.mem_map_of_mem h)
      exact (if_neg hne).trans (ih ht h)

/-! ### The keys of the tables (R102, R115, R117) -/

/-- Every byte, in ascending order: the order of the tables. -/
def allBytes : List Byte := (List.range 256).map (BitVec.ofNat 8)

theorem mem_allBytes (b : Byte) : b ∈ allBytes :=
  List.mem_map.mpr ⟨b.toNat, List.mem_range.mpr b.isLt, by simp⟩

theorem allBytes_nodup : allBytes.Nodup := by
  refine List.nodup_range.map_on fun m hm n hn h => ?_
  rw [List.mem_range] at hm hn
  have := congrArg BitVec.toNat h
  rwa [BitVec.toNat_ofNat, BitVec.toNat_ofNat, Nat.mod_eq_of_lt hm, Nat.mod_eq_of_lt hn] at this

/-- A table whose keys are the bytes with a property has rows for exactly those. -/
theorem lookup_eq_none_of_keys {t : List (Byte × Form)} {p : Byte → Bool} (h : t.map Prod.fst = allBytes.filter p)
    (b : Byte) : lookup t b = none ↔ p b = false := by
  rw [lookup_eq_none_iff, h, List.mem_filter, and_iff_right (mem_allBytes b), Bool.not_eq_true]

set_option maxRecDepth 4000 in
theorem baseTable_keys :
    baseTable.map Prod.fst = allBytes.filter (fun b => !([0xCB#8, 0xDD#8, 0xED#8, 0xFD#8].contains b)) := by decide

set_option maxRecDepth 4000 in
theorem cbTable_keys :
    cbTable.map Prod.fst = allBytes.filter (fun b => !decide (0x30 ≤ b.toNat ∧ b.toNat ≤ 0x37)) := by decide

/-- The table under an index byte (R116). -/
def indexTable : Index → List (Byte × Form)
  | .ix => ixTable
  | .iy => iyTable

/-- The table of the operation bytes under an index byte and CB (R117). -/
def indexBitTable : Index → List (Byte × Form)
  | .ix => ixBitTable
  | .iy => iyBitTable

set_option maxRecDepth 4000 in
theorem indexBitTable_keys (x : Index) :
    (indexBitTable x).map Prod.fst = allBytes.filter (fun b => !decide (b.toNat % 8 ≠ 6 ∨ b = 0x36#8)) := by
  cases x <;> decide

theorem indexBitTable_form (x : Index) : ∀ r ∈ indexBitTable x, ∃ g, r.2 = .d g := by
  rw [← List.forall_iff_forall_mem]
  cases x <;> and_intros <;> exact ⟨_, rfl⟩

/-! ### The decoder by its first byte (R101) -/

theorem decode_cb (p : List Byte) : decode (0xCB#8 :: p) = decodeEscape cbTable 0xCB#8 p := rfl

theorem decode_ed (p : List Byte) : decode (0xED#8 :: p) = decodeEscape edTable 0xED#8 p := rfl

theorem decode_index (x : Index) (p : List Byte) :
    decode (x.byte :: p) = decodeIndex (indexTable x) (indexBitTable x) x.byte p := by
  cases x <;> rfl

/-- But for its CB escape an index byte leads to a secondary table as CB and ED do. -/
theorem decodeIndex_of_ne {b1 : Byte} (h : b1 ≠ 0xCB#8) (table bits : List (Byte × Form)) (b : Byte) (p : List Byte) :
    decodeIndex table bits b (b1 :: p) = decodeEscape table b (b1 :: p) :=
  if_neg h

theorem decode_of_baseRow {b : Byte} {f : Form} (h : lookup baseTable b = some f) (p : List Byte) :
    decode (b :: p) = f.finish 1 p := by
  have hk : lookup baseTable b ≠ none := by rw [h]; exact Option.some_ne_none f
  obtain ⟨hcb, hdd, hed, hfd⟩ : b ≠ 0xCB#8 ∧ b ≠ 0xDD#8 ∧ b ≠ 0xED#8 ∧ b ≠ 0xFD#8 := by
    simpa [lookup_eq_none_of_keys baseTable_keys] using hk
  simp only [decode, hcb, hdd, hed, hfd, h, if_false]

/-! ### What each row encodes (R100 to R118) -/

/-- The instruction of a row with the signed operand `z`, the byte `v` and the word `w`, each where the row has one. -/
def Form.instr (f : Form) (z : Int) (v : Byte) (w : Word) : Instr :=
  match f with
  | .op i => i
  | .n g => g v
  | .e g | .d g => g z
  | .nn g => g w
  | .dn g => g z v

/-- The operand bytes of those operands (R110 to R113). -/
def Form.operandBytes (f : Form) (z : Int) (v : Byte) (w : Word) : List Byte :=
  match f with
  | .op _ => []
  | .n _ => [v]
  | .e _ | .d _ => [signedCode z]
  | .nn _ => [lo w, hi w]
  | .dn _ => [signedCode z, v]

/-- The offset e of an instruction of the row (R113). -/
def Form.offset (f : Form) (z : Int) : Option Int :=
  match f with
  | .e _ => some z
  | .op _ | .n _ | .nn _ | .d _ | .dn _ => none

/-- The displacement d of an instruction of the row (R112). -/
def Form.displacement (f : Form) (z : Int) : Option Int :=
  match f with
  | .d _ | .dn _ => some z
  | .op _ | .n _ | .nn _ | .e _ => none

/-- Every instruction of the row is encoded as its operand bytes in their place among the identifying bytes. -/
def Form.Codes (place : List Byte → List Byte) (f : Form) : Prop :=
  ∀ z v w, encode (f.instr z v w) = place (f.operandBytes z v w) ∧ (f.instr z v w).displacement = f.displacement z ∧
    (f.instr z v w).offset = f.offset z

theorem baseTable_codes : ∀ r ∈ baseTable, r.2.Codes ([r.1] ++ ·) :=
  List.forall_iff_forall_mem.mp (by and_intros <;> exact fun _ _ _ => ⟨rfl, rfl, rfl⟩)

theorem cbTable_codes : ∀ r ∈ cbTable, r.2.Codes ([0xCB#8, r.1] ++ ·) :=
  List.forall_iff_forall_mem.mp (by and_intros <;> exact fun _ _ _ => ⟨rfl, rfl, rfl⟩)

theorem edTable_codes : ∀ r ∈ edTable, r.2.Codes ([0xED#8, r.1] ++ ·) :=
  List.forall_iff_forall_mem.mp (by and_intros <;> exact fun _ _ _ => ⟨rfl, rfl, rfl⟩)

theorem indexTable_codes (x : Index) : ∀ r ∈ indexTable x, r.2.Codes ([x.byte, r.1] ++ ·) := by
  rw [← List.forall_iff_forall_mem]
  cases x <;> and_intros <;> exact fun _ _ _ => ⟨rfl, rfl, rfl⟩

/-- Under an index byte and CB the displacement stands before the operation byte (R117). -/
theorem indexBitTable_codes (x : Index) : ∀ r ∈ indexBitTable x, r.2.Codes ([x.byte, 0xCB#8] ++ · ++ [r.1]) := by
  rw [← List.forall_iff_forall_mem]
  cases x <;> and_intros <;> exact fun _ _ _ => ⟨rfl, rfl, rfl⟩

/-- Operand bytes that finish a row are those of some operands in range, and any bytes may follow them. -/
theorem Form.finish_done {f : Form} {head n : Nat} {p : List Byte} {i : Instr} (h : f.finish head p = .done i n) :
    ∃ z v w rest, signedByte z = true ∧ i = f.instr z v w ∧ p = f.operandBytes z v w ++ rest ∧
      n = head + (f.operandBytes z v w).length := by
  cases f with
  | op => cases h; exact ⟨0, 0, 0, p, rfl, rfl, rfl, rfl⟩
  | n =>
    rcases p with _ | ⟨v, p⟩
    · cases h
    · cases h; exact ⟨0, v, 0, p, rfl, rfl, rfl, rfl⟩
  | e | d =>
    rcases p with _ | ⟨v, p⟩
    · cases h
    · cases h; exact ⟨sext8 v, 0, 0, p, signedByte_sext8 v, rfl, by simp [operandBytes, signedCode_sext8], rfl⟩
  | nn =>
    rcases p with _ | ⟨l, _ | ⟨h', p⟩⟩
    · cases h
    · cases h
    · cases h; exact ⟨0, 0, cat h' l, p, rfl, rfl, by simp [operandBytes], rfl⟩
  | dn =>
    rcases p with _ | ⟨v, _ | ⟨v', p⟩⟩
    · cases h
    · cases h
    · cases h; exact ⟨sext8 v, v', 0, p, signedByte_sext8 v, rfl, by simp [operandBytes, signedCode_sext8], rfl⟩

theorem Form.Codes.wf {place : List Byte → List Byte} {f : Form} (hc : f.Codes place) {z : Int}
    (hz : signedByte z = true) (v : Byte) (w : Word) : (f.instr z v w).wf = true := by
  obtain ⟨-, hd, he⟩ := hc z v w
  rw [Instr.wf, hd, he]
  cases f <;> simp [Form.displacement, Form.offset, hz]

/-- The first `n` bytes are the encoding of `i`, which is well formed. -/
def Encodes (p : List Byte) (i : Instr) (n : Nat) : Prop := encode i = p.take n ∧ i.wf = true

theorem Form.Codes.finish {pre p : List Byte} {f : Form} {i : Instr} {n : Nat} (hc : f.Codes (pre ++ ·))
    (h : f.finish pre.length p = .done i n) : Encodes (pre ++ p) i n := by
  obtain ⟨z, v, w, rest, hz, rfl, rfl, rfl⟩ := Form.finish_done h
  refine ⟨?_, hc.wf hz v w⟩
  rw [(hc z v w).1, ← List.append_assoc, List.take_left' (List.length_append ..)]

theorem decodeEscape_encodes {table : List (Byte × Form)} {b : Byte} {p : List Byte} {i : Instr} {n : Nat}
    (ht : ∀ r ∈ table, r.2.Codes ([b, r.1] ++ ·)) (h : decodeEscape table b p = .done i n) : Encodes (b :: p) i n := by
  cases p with
  | nil => cases h
  | cons b1 p =>
    simp only [decodeEscape] at h
    cases hl : lookup table b1 with
    | none => rw [hl] at h; cases h
    | some f => rw [hl] at h; exact (ht _ (lookup_mem hl)).finish h

theorem decodeIndex_encodes (x : Index) {p : List Byte} {i : Instr} {n : Nat}
    (h : decodeIndex (indexTable x) (indexBitTable x) x.byte p = .done i n) : Encodes (x.byte :: p) i n := by
  cases p with
  | nil => cases h
  | cons b1 p =>
    by_cases hb : b1 = 0xCB#8
    · simp only [decodeIndex, hb, if_true] at h ⊢
      rcases p with _ | ⟨d, _ | ⟨b3, p⟩⟩
      · cases h
      · cases h
      · cases hl : lookup (indexBitTable x) b3 with
        | none => simp only [hl] at h; cases h
        | some f =>
          have hm := lookup_mem hl
          obtain ⟨g, rfl⟩ := indexBitTable_form x _ hm
          have hc := indexBitTable_codes x _ hm
          simp only [hl] at h
          cases h
          refine ⟨((hc (sext8 d) 0 0).1).trans ?_, hc.wf (signedByte_sext8 d) 0 0⟩
          simp [Form.operandBytes, signedCode_sext8]
    · rw [decodeIndex_of_ne hb] at h
      exact decodeEscape_encodes (indexTable_codes x) h

theorem decode_encodes {p : List Byte} {i : Instr} {n : Nat} (h : decode p = .done i n) : Encodes p i n := by
  cases p with
  | nil => cases h
  | cons b p =>
    simp only [decode] at h
    split_ifs at h with hcb hed hdd hfd
    · subst hcb; exact decodeEscape_encodes cbTable_codes h
    · subst hed; exact decodeEscape_encodes edTable_codes h
    · subst hdd; exact decodeIndex_encodes .ix h
    · subst hfd; exact decodeIndex_encodes .iy h
    · cases hl : lookup baseTable b with
      | none => rw [hl] at h; cases h
      | some f => rw [hl] at h; exact (baseTable_codes _ (lookup_mem hl)).finish h

/-- The length the decoder answers is that of the encoding. -/
theorem length_of_decode {p : List Byte} {i : Instr} {n : Nat} (h : decode p = .done i n) : n = (encode i).length := by
  rw [(decode_encodes h).1, List.length_take, Nat.min_eq_left (decode_length h).1]

/-! ### The row that an instruction's encoding selects -/

/-- The row of a table cut into parts in ascending order, each with a bound above its keys: only one part is searched, so
that the row of a given instruction is found by evaluation at little cost. -/
def lookupPart : List (Nat × List (Byte × Form)) → Byte → Option Form
  | [], _ => none
  | (bound, t) :: parts, b => if b.toNat < bound then lookup t b else lookupPart parts b

theorem lookupPart_mem {parts : List (Nat × List (Byte × Form))} {b : Byte} {f : Form} (h : lookupPart parts b = some f) :
    (b, f) ∈ parts.flatMap Prod.snd := by
  induction parts with
  | nil => cases h
  | cons part parts ih =>
    rw [lookupPart] at h
    rw [List.flatMap_cons, List.mem_append]
    split at h
    · exact .inl (lookup_mem h)
    · exact .inr (ih h)

theorem lookup_of_lookupPart {t : List (Byte × Form)} {p : Byte → Bool} {parts : List (Nat × List (Byte × Form))}
    {b : Byte} {f : Form} (hk : t.map Prod.fst = allBytes.filter p) (ht : t = parts.flatMap Prod.snd)
    (h : lookupPart parts b = some f) : lookup t b = some f :=
  lookup_of_mem (hk ▸ allBytes_nodup.filter p) (ht ▸ lookupPart_mem h)

/-- The parts of the base table (R102). -/
def baseParts : List (Nat × List (Byte × Form)) :=
  [(0x20, baseTable0), (0x40, baseTable1), (0x60, baseTable2), (0x80, baseTable3), (0xA0, baseTable4), (0xC0, baseTable5),
   (0xE2, baseTable6), (0x100, baseTable7)]

/-- The parts of the CB table (R115). -/
def cbParts : List (Nat × List (Byte × Form)) :=
  [(0x20, cbTable0), (0x48, cbTable1), (0x68, cbTable2), (0x88, cbTable3), (0xA8, cbTable4), (0xC8, cbTable5),
   (0xE8, cbTable6), (0x100, cbTable7)]

theorem lookup_of_baseParts {b : Byte} {f : Form} (h : lookupPart baseParts b = some f) : lookup baseTable b = some f :=
  lookup_of_lookupPart baseTable_keys (by simp [baseTable, baseParts]) h

theorem lookup_of_cbParts {b : Byte} {f : Form} (h : lookupPart cbParts b = some f) : lookup cbTable b = some f :=
  lookup_of_lookupPart cbTable_keys (by simp [cbTable, cbParts]) h

/-- The row that the next byte selects, with the number of identifying bytes and the bytes after them. -/
def rowAt (row : Byte → Option Form) (head : Nat) : List Byte → Option (Form × Nat × List Byte)
  | [] => none
  | b :: ops => (row b).map (·, head, ops)

/-- The row under an index byte; of its CB escape, with the displacement as the one operand (R117). -/
def indexRow (x : Index) : List Byte → Option (Form × Nat × List Byte)
  | [] => none
  | b :: p =>
    if b = 0xCB#8 then
      match p with
      | d :: b3 :: _ => (lookup (indexBitTable x) b3).map (·, 3, [d])
      | _ => none
    else rowAt (lookup (indexTable x)) 2 (b :: p)

/-- The row of the opcode tables that the decoder takes for these bytes (R101). -/
def selectedRow : List Byte → Option (Form × Nat × List Byte)
  | [] => none
  | b :: p =>
    if b = 0xCB#8 then rowAt (lookupPart cbParts) 2 p
    else if b = 0xED#8 then rowAt (lookup edTable) 2 p
    else if b = 0xDD#8 then indexRow .ix p
    else if b = 0xFD#8 then indexRow .iy p
    else rowAt (lookupPart baseParts) 1 (b :: p)

theorem rowAt_eq_some {row : Byte → Option Form} {head k : Nat} {p ops : List Byte} {f : Form}
    (h : rowAt row head p = some (f, k, ops)) : ∃ b, p = b :: ops ∧ row b = some f ∧ k = head := by
  cases p with
  | nil => cases h
  | cons b p =>
    obtain ⟨g, hg, he⟩ := Option.map_eq_some_iff.mp h
    cases he
    exact ⟨b, rfl, hg, rfl⟩

theorem decodeEscape_of_row {table : List (Byte × Form)} {b1 : Byte} {f : Form} (h : lookup table b1 = some f) (b : Byte)
    (p : List Byte) : decodeEscape table b (b1 :: p) = f.finish 2 p := by
  simp only [decodeEscape, h]

theorem decodeIndex_of_row {x : Index} {p ops : List Byte} {f : Form} {head : Nat} (h : indexRow x p = some (f, head, ops)) :
    decodeIndex (indexTable x) (indexBitTable x) x.byte p = f.finish head ops := by
  cases p with
  | nil => cases h
  | cons b p =>
    simp only [indexRow] at h
    split at h
    next hb =>
      rcases p with _ | ⟨d, _ | ⟨b3, p⟩⟩
      · cases h
      · cases h
      · obtain ⟨g, hg, he⟩ := Option.map_eq_some_iff.mp h
        obtain ⟨g', rfl⟩ := indexBitTable_form x _ (lookup_mem hg)
        cases he
        simp only [decodeIndex, hb, if_true, hg, Form.finish]
    next hb =>
      obtain ⟨b', hp, hl, rfl⟩ := rowAt_eq_some h
      cases hp
      rw [decodeIndex_of_ne hb, decodeEscape_of_row hl]

/-- The decoder answers what the selected row makes of the bytes after its identifying ones. -/
theorem decode_of_selectedRow {p ops : List Byte} {f : Form} {head : Nat} (h : selectedRow p = some (f, head, ops)) :
    decode p = f.finish head ops := by
  cases p with
  | nil => cases h
  | cons b p =>
    simp only [selectedRow] at h
    split_ifs at h with hcb hed hdd hfd
    · obtain ⟨b1, rfl, hl, rfl⟩ := rowAt_eq_some h
      rw [hcb, decode_cb, decodeEscape_of_row (lookup_of_cbParts hl)]
    · obtain ⟨b1, rfl, hl, rfl⟩ := rowAt_eq_some h
      rw [hed, decode_ed, decodeEscape_of_row hl]
    · subst hdd; exact (decode_index .ix p).trans (decodeIndex_of_row h)
    · subst hfd; exact (decode_index .iy p).trans (decodeIndex_of_row h)
    · obtain ⟨b', hp, hl, rfl⟩ := rowAt_eq_some h
      cases hp
      exact decode_of_baseRow (lookup_of_baseParts hl) ops

/-- The bytes after a row's identifying bytes begin with the operand bytes of the instruction (R110 to R113). -/
inductive Form.Spells : Form → List Byte → Instr → Prop
  | op (i : Instr) (rest : List Byte) : (Form.op i).Spells rest i
  | n (g : Byte → Instr) (v : Byte) (rest : List Byte) : (Form.n g).Spells (v :: rest) (g v)
  | e (g : Int → Instr) (z : Int) (rest : List Byte) (he : (g z).offset = some z) :
    (Form.e g).Spells (signedCode z :: rest) (g z)
  | nn (g : Word → Instr) (w : Word) (rest : List Byte) : (Form.nn g).Spells (lo w :: hi w :: rest) (g w)
  | d (g : Int → Instr) (z : Int) (rest : List Byte) (hd : (g z).displacement = some z) :
    (Form.d g).Spells (signedCode z :: rest) (g z)
  | dn (g : Int → Byte → Instr) (z : Int) (v : Byte) (rest : List Byte) (hd : (g z v).displacement = some z) :
    (Form.dn g).Spells (signedCode z :: v :: rest) (g z v)

theorem signedByte_displacement {i : Instr} {z : Int} (hw : i.wf = true) (hd : i.displacement = some z) :
    signedByte z = true := by
  rw [Instr.wf, hd] at hw
  exact (Bool.and_eq_true_iff.mp hw).1

theorem signedByte_offset {i : Instr} {z : Int} (hw : i.wf = true) (he : i.offset = some z) : signedByte z = true := by
  rw [Instr.wf, he] at hw
  exact (Bool.and_eq_true_iff.mp hw).2

theorem Form.Spells.finish {f : Form} {ops : List Byte} {i : Instr} (h : f.Spells ops i) (hw : i.wf = true) (head : Nat) :
    ∃ n, f.finish head ops = .done i n := by
  cases h with
  | op | n => exact ⟨_, rfl⟩
  | e _ _ _ he => exact ⟨_, by rw [Form.finish, sext8_signedCode _ (signedByte_offset hw he)]⟩
  | nn => exact ⟨_, by rw [Form.finish, cat_hi_lo]⟩
  | d _ _ _ hd | dn _ _ _ _ hd => exact ⟨_, by rw [Form.finish, sext8_signedCode _ (signedByte_displacement hw hd)]⟩

/-- The encoding of every instruction selects a row that its operand bytes make into the instruction (R120). -/
theorem encode_selects (i : Instr) (rest : List Byte) :
    ∃ f head ops, selectedRow (encode i ++ rest) = some (f, head, ops) ∧ f.Spells ops i := by
  cases i <;> exact ⟨_, _, _, rfl, by constructor <;> rfl⟩

/-! ### The length (R119) -/

theorem instructionLength_encode {i : Instr} {b0 b1 : Byte} {rest tail : List Byte}
    (h : encode i ++ tail = b0 :: b1 :: rest) : instructionLength b0 b1 = (encode i).length := by
  cases i <;> cases h <;> rfl

/-! ### The encodings not admitted (R120, R121) -/

theorem Form.finish_ne_invalidOpcode (f : Form) (head : Nat) (p bs : List Byte) : f.finish head p ≠ .invalidOpcode bs := by
  cases f with
  | op => nofun
  | n | e | d => cases p <;> nofun
  | nn | dn => rcases p with _ | ⟨v, _ | ⟨w, p⟩⟩ <;> nofun

theorem decodeEscape_invalidOpcode (table : List (Byte × Form)) (b b1 : Byte) (rest bs : List Byte) :
    decodeEscape table b (b1 :: rest) = .invalidOpcode bs ↔ lookup table b1 = none ∧ bs = [b, b1] := by
  simp only [decodeEscape]
  cases lookup table b1 with
  | none => simp [eq_comm]
  | some f => simp [f.finish_ne_invalidOpcode]

theorem decodeIndex_cb_invalidOpcode (x : Index) (d b3 : Byte) (rest bs : List Byte) :
    decodeIndex (indexTable x) (indexBitTable x) x.byte (0xCB#8 :: d :: b3 :: rest) = .invalidOpcode bs ↔
      lookup (indexBitTable x) b3 = none ∧ bs = [x.byte, 0xCB#8, d, b3] := by
  simp only [decodeIndex, if_true]
  cases hl : lookup (indexBitTable x) b3 with
  | none => simp [eq_comm]
  | some f =>
    obtain ⟨g, rfl⟩ := indexBitTable_form x _ (lookup_mem hl)
    simp

end Sys2Proof

namespace Sys2Proof.Machine

/-! ### The addresses of the operands (R112, R113) -/

theorem trunc16_toNat_add (w : Word) (z : Int) : trunc16 (w.toNat + z) = w + BitVec.ofInt 16 z := by
  rw [trunc16, BitVec.ofInt_add, BitVec.ofInt_natCast, BitVec.ofNat_toNat, BitVec.setWidth_eq]

end Sys2Proof.Machine

namespace Sys2Proof.Settled

open Sys2Proof Sys2Proof.Machine

/-- Settles O3: every row of the tables encodes as the bytes that select it. -/
theorem decodeThenEncode : Obligations.DecodeThenEncode := by
  unfold Obligations.DecodeThenEncode
  intro bytes i n h
  obtain ⟨he, hw⟩ := decode_encodes h
  exact ⟨he, hw, (decode_length h).1⟩

/-- Settles O2: the encoding selects a row that makes the instruction, and O3 gives the length. -/
theorem encodeThenDecode : Obligations.EncodeThenDecode := by
  unfold Obligations.EncodeThenDecode
  intro i rest hw
  obtain ⟨f, head, ops, hrow, hs⟩ := encode_selects i rest
  obtain ⟨n, hn⟩ := hs.finish hw head
  have hd := (decode_of_selectedRow hrow).trans hn
  rw [hd, length_of_decode hd]

/-- Settles O5: the bytes begin with the encoding, of which one byte or two tell the length. -/
theorem lengthFromTwoBytes : Obligations.LengthFromTwoBytes := by
  unfold Obligations.LengthFromTwoBytes
  intro b0 b1 rest i n h
  have hlen := length_of_decode h
  have hcut : encode i ++ (b0 :: b1 :: rest).drop n = b0 :: b1 :: rest := by
    rw [(decode_encodes h).1, List.take_append_drop]
  have hpos := List.length_pos_iff.mpr (encode_ne_nil i)
  exact ⟨hlen.trans (instructionLength_encode hcut).symm, by omega, (decode_length h).2⟩

/-- Settles O6: the decoder rejects exactly the keys that a table has no row for. -/
theorem rejectedEncodings : Obligations.RejectedEncodings := by
  unfold Obligations.RejectedEncodings
  refine ⟨fun b0 rest bs hcb hdd hed hfd => ?_, fun b1 rest bs => ?_, fun b1 rest bs => ?_, fun x b1 rest bs h => ?_,
    fun x d b3 rest bs => ?_, fun x d => ?_⟩
  · cases hl : lookup baseTable b0 with
    | none =>
      have hk := (lookup_eq_none_of_keys baseTable_keys b0).mp hl
      simp [hcb, hdd, hed, hfd] at hk
    | some f => rw [decode_of_baseRow hl]; exact f.finish_ne_invalidOpcode 1 rest bs
  · rw [decode_cb, decodeEscape_invalidOpcode, lookup_eq_none_of_keys cbTable_keys, Bool.not_eq_false',
      decide_eq_true_iff]
  · rw [decode_ed, decodeEscape_invalidOpcode, lookup_eq_none_iff]
    rfl
  · rw [decode_index, decodeIndex_of_ne h, decodeEscape_invalidOpcode, lookup_eq_none_iff]
    refine and_congr_left' (not_congr (List.Perm.mem_iff ?_))
    cases x <;> decide
  · rw [decode_index, decodeIndex_cb_invalidOpcode, lookup_eq_none_of_keys (indexBitTable_keys x), Bool.not_eq_false',
      decide_eq_true_iff]
  · cases x <;> exact ⟨rfl, rfl⟩

/-- Settles O30: addition in the integers and then truncation is the addition of words. -/
theorem indexedAddress : Obligations.IndexedAddress := by
  unfold Obligations.IndexedAddress
  intro s x d e
  refine ⟨(trunc16_toNat_add _ d).symm, ?_⟩
  calc s.relative e = s.pc + (2 + BitVec.ofInt 16 e) := BitVec.add_assoc ..
    _ = s.pc + BitVec.ofInt 16 (2 + e) := by rw [BitVec.ofInt_add]; rfl
    _ = trunc16 (s.pc.toNat + 2 + e) := by rw [← trunc16_toNat_add, Int.add_assoc]

/-- Settles O1, by running the decoder on each word. -/
theorem fewWordsDecode : Obligations.FewWordsDecode := by
  unfold Obligations.FewWordsDecode
  decide

/-- Settles O4, row by row. -/
theorem encodingLines : Obligations.EncodingLines := by
  unfold Obligations.EncodingLines
  exact encode_family

end Sys2Proof.Settled
end

section
/-! SUPPORT. The proofs of the statements on the 8-bit loads that access no memory (40_load8.md): a register from a register or
an immediate byte, and A from and to I and R. -/

namespace Sys2Proof.Machine

/-- An instruction that writes a byte to a register and moves on changes that register and PC alone (R140, R141). -/
theorem exec_setReg8_advance {i : Instr} {s : State} {r : Reg8} {v : Byte} {f : Family} (hf : i.family = f)
    (hx : f.exec s = .next ((s.setReg8 r v).advance f.encoding.length)) (hp : f.plain = true) :
    ∃ t, exec i s = .next t ∧ t.reg8 r = v ∧ t.pc = nextPc i s ∧ t.bus = s.bus ∧
      Frame { Changed.none with regs := [r] } s t ∧ ControlFrame s t := by
  subst hf
  have he := exec_of_family rfl hx
  exact ⟨_, he, by simp, by simp [nextPc_family], rfl,
    ((Frame.refl _ s).setReg8 (List.mem_singleton_self r) v).advance _, controlFrame_of_plain hp he⟩

/-- The flags of LD A,I and LD A,R (R154, R155). -/
theorem setF_loadAFlags (s : State) (v : Byte) (iff2 : Bool) :
    FlagsAre (s.setF (loadAFlags v iff2)).main.f v.msb (v == 0) false iff2 false s.main.f.c :=
  ⟨bit7_eq_msb v, (beq_eq_decide v 0).symm, rfl, rfl, rfl, rfl⟩

/-- An instruction whose meaning is `loadAFrom` changes A, the flags and PC alone (R154, R155). -/
theorem exec_loadAFrom {i : Instr} {s : State} {v : Byte} {f : Family} (hf : i.family = f) (hx : f.exec s = loadAFrom v s)
    (hn : f.encoding.length = 2) (hp : f.plain = true) :
    ∃ t, exec i s = .next t ∧ t.main.a = v ∧
      FlagsAre t.main.f t.main.a.msb (t.main.a == 0) false s.iff2 false s.main.f.c ∧ t.pc = nextPc i s ∧ t.bus = s.bus ∧
      Frame { Changed.none with regs := [.a], flags := true } s t ∧ ControlFrame s t := by
  subst hf
  have he := exec_of_family rfl hx
  exact ⟨_, he, rfl, setF_loadAFlags (s.setReg8 .a v) v s.iff2, by simp [nextPc_family, hn], rfl,
    (((Frame.refl _ s).setReg8 (List.mem_singleton_self _) v).setF rfl _).advance 2, controlFrame_of_plain hp he⟩

end Sys2Proof.Machine

namespace Sys2Proof.Settled

open Sys2Proof Sys2Proof.Machine

/-- Settles O27: both forms write one register and move on. -/
theorem loadRegister : Obligations.LoadRegister := by
  unfold Obligations.LoadRegister
  intro i s dst
  refine ⟨fun src hf => ⟨?_, exec_setReg8_advance hf rfl rfl⟩, fun n hf => ⟨?_, exec_setReg8_advance hf rfl rfl⟩⟩
  · rw [encode_family, hf]; rfl
  · rw [encode_family, hf]; rfl

/-- Settles O31: LD A,I and LD A,R are `loadAFrom`; LD I,A and LD R,A write one field. -/
theorem loadControlRegisters : Obligations.LoadControlRegisters := by
  unfold Obligations.LoadControlRegisters
  intro i s
  refine ⟨?_, fun hf => ?_, fun hf => ?_⟩
  · rintro (hf | hf)
    · rw [if_pos hf]; exact exec_loadAFrom hf rfl rfl rfl
    · rw [if_neg (by rw [hf]; decide)]; exact exec_loadAFrom hf rfl rfl rfl
  · rw [nextPc_family, hf]; exact exec_of_family hf rfl
  · rw [nextPc_family, hf]; exact exec_of_family hf rfl

end Sys2Proof.Settled
end

section
/-! SUPPORT. The proof of the statement on the 16-bit loads that access no memory (41_load16.md): a pair, an index register or
SP from an immediate word or a register. -/

namespace Sys2Proof.Machine

/-- An instruction that updates registers and moves on: the next state, its PC (R12) and all that it leaves alone. -/
theorem exec_update_advance {i : Instr} {s u : State} {f : Family} {c : Changed} (hf : i.family = f)
    (hx : f.exec s = .next (u.advance f.encoding.length)) (hp : f.plain = true) (hpc : u.pc = s.pc) (hbus : u.bus = s.bus)
    (hu : Frame c s u) :
    ∃ t, exec i s = .next t ∧ t = u.advance f.encoding.length ∧ t.pc = nextPc i s ∧ t.bus = s.bus ∧ ControlFrame s t ∧
      Frame c s t := by
  subst hf
  have he := exec_of_family rfl hx
  exact ⟨_, he, rfl, by rw [State.advance_pc, hpc, nextPc_family], hbus, controlFrame_of_plain hp he, hu.advance _⟩

/-- An instruction that writes SP and moves on changes SP and PC alone (R178, R179). -/
theorem exec_setSp_advance {i : Instr} {s : State} {v : Word} {f : Family} (hf : i.family = f)
    (hx : f.exec s = .next ((s.setSp v).advance f.encoding.length)) (hp : f.plain = true) :
    ∃ t, exec i s = .next t ∧ t.sp = v ∧ t.pc = nextPc i s ∧ t.bus = s.bus ∧ ControlFrame s t ∧
      Frame { Changed.none with sp := true } s t := by
  obtain ⟨_, he, rfl, h⟩ := exec_update_advance hf hx hp rfl rfl ((Frame.refl { Changed.none with sp := true } s).setSp rfl v)
  exact ⟨_, he, rfl, h⟩

end Sys2Proof.Machine

namespace Sys2Proof.Settled

open Sys2Proof Sys2Proof.Machine

/-- Settles O32: each form is one register update and the move to the next instruction. -/
theorem loadPair : Obligations.LoadPair := by
  unfold Obligations.LoadPair
  intro i s
  refine ⟨fun dd nn hf => ?_, fun x nn hf => ?_, ?_⟩
  · obtain ⟨_, he, rfl, h⟩ := exec_update_advance hf rfl rfl (s.setPair_pc dd nn) (s.setPair_bus dd nn)
      ((Frame.refl _ s).setPair nn)
    exact ⟨_, he, s.pair_setPair dd nn, h⟩
  · obtain ⟨_, he, rfl, h⟩ := exec_update_advance hf rfl rfl (s.setIndex_pc x nn) (s.setIndex_bus x nn)
      ((Frame.refl { Changed.none with index := [x] } s).setIndex (List.mem_singleton_self x) nn)
    exact ⟨_, he, by rw [State.index_advance, State.index_setIndex_self], h⟩
  · rintro v (⟨hf, rfl⟩ | ⟨x, hf, rfl⟩)
    · exact exec_setSp_advance hf rfl rfl
    · exact exec_setSp_advance hf rfl rfl

end Sys2Proof.Settled
end

section
/-! SUPPORT. The proofs of the statements on exchange, block transfer and block search (42_exchange_block.md): an exchange with
the top of the stack, and one step of a block instruction. -/

namespace Sys2Proof.Machine

/-- A write to a pair whose registers may change. -/
theorem Frame.setPair_of_mem {c : Changed} {s t : State} (h : Frame c s t) {p : Pair} (hr : ∀ r ∈ p.regs, r ∈ c.regs)
    (hs : p = .sp → c.sp = true) (v : Word) : Frame c s (t.setPair p v) := by
  cases p with
  | bc | de | hl => exact (h.setReg8 (hr _ (by decide)) _).setReg8 (hr _ (by decide)) _
  | sp => exact h.setSp (hs rfl) v

/-! ### The exchanges with the top of the stack (R203, R204) -/

@[simp] theorem State.sawReadWord_pc (s : State) (a : Word) : (s.sawReadWord a).pc = s.pc := by simp [State.sawReadWord]
@[simp] theorem State.sawWriteWord_pc (s : State) (a v : Word) : (s.sawWriteWord a v).pc = s.pc := rfl

/-- The four accesses of an exchange that can be served: a 16-bit read and a 16-bit write at one address. -/
theorem exchange_served {b : Bus} {a v : Word} (h : firstError b (wantRead16 a ++ wantWrite16 a v) = none) :
    b.readError (.mem a) = none ∧ b.readError (.mem (a + 1)) = none ∧
      b.writeError (.mem a) = none ∧ b.writeError (.mem (a + 1)) = none := by
  obtain ⟨hr0, h⟩ := firstError_cons_none.mp h
  obtain ⟨hr1, h⟩ := firstError_cons_none.mp h
  exact ⟨hr0, hr1, firstError_two h⟩

/-- The word written is in storage, whatever the read before it saw (R76, R82). -/
theorem storedWord_of_exchange {s t : State} {a v : Word} (hb : t.bus = ((s.sawReadWord a).sawWriteWord a v).bus)
    (hc : s.canonical = true) (hd : s.wordInStorage a) : t.storedWord a = v :=
  storedWord_of_bus hb (by simpa [State.sawReadWord] using hc)
    (by simpa [State.wordInStorage, State.sawReadWord] using hd)

/-- An instruction that reads the word at SP, writes `v` there, updates registers to `u` and moves on. -/
theorem exec_exchange {i : Instr} {s u : State} {v : Word} {f : Family} {c : Changed} (hf : i.family = f)
    (hx : f.exec s = .next (u.advance f.encoding.length)) (hp : f.plain = true) (hpc : u.pc = s.pc)
    (hb : u.bus = ((s.sawReadWord s.sp).sawWriteWord s.sp v).bus) (hu : Frame c s u) :
    ∃ t, exec i s = .next t ∧ t = u.advance f.encoding.length ∧ t.pc = nextPc i s ∧
      t.bus = ((s.sawReadWord s.sp).sawWriteWord s.sp v).bus ∧ ControlFrame s t ∧
      (s.canonical = true → s.wordInStorage s.sp → t.storedWord s.sp = v) ∧ Frame c s t := by
  subst hf
  have he := exec_of_family rfl hx
  exact ⟨_, he, rfl, by rw [State.advance_pc, hpc, nextPc_family], hb, controlFrame_of_plain hp he,
    storedWord_of_exchange hb, hu.advance _⟩

/-- The frame of an exchange, up to the register that takes the word read. -/
theorem Frame.exchange {c : Changed} {s : State} {a : Word} (h0 : Place.mem a ∈ c.bytes) (h1 : Place.mem (a + 1) ∈ c.bytes)
    (v : Word) : Frame c s ((s.sawReadWord a).sawWriteWord a v) :=
  ((Frame.refl c s).sawReadWord a).sawWriteWord h0 h1 v

/-! ### One step of a block instruction (R205 to R213) -/

section
variable (s : State) (v : Word) (u : FlagSet)

@[simp] theorem State.setF_bc : (s.setF u).bc = s.bc := rfl
@[simp] theorem State.setF_de : (s.setF u).de = s.de := rfl
@[simp] theorem State.setF_hl : (s.setF u).hl = s.hl := rfl
@[simp] theorem State.jump_bc : (s.jump v).bc = s.bc := rfl
@[simp] theorem State.jump_de : (s.jump v).de = s.de := rfl
@[simp] theorem State.jump_hl : (s.jump v).hl = s.hl := rfl
@[simp] theorem State.setBc_f : (s.setBc v).main.f = s.main.f := rfl
@[simp] theorem State.setDe_f : (s.setDe v).main.f = s.main.f := rfl
@[simp] theorem State.setHl_f : (s.setHl v).main.f = s.main.f := rfl
@[simp] theorem State.setBc_de : (s.setBc v).de = s.de := rfl
@[simp] theorem State.setBc_hl : (s.setBc v).hl = s.hl := rfl
@[simp] theorem State.setHl_de : (s.setHl v).de = s.de := rfl

end

/-- A block instruction whose step made `u` stays at its own address when it goes on, and moves on otherwise (R205). -/
theorem exec_blockEnd {i : Instr} {s u : State} {again : Bool} {f : Family} {c : Changed} (hf : i.family = f)
    (hx : f.exec s = blockEnd again u) (hn : f.encoding.length = 2) (hp : f.plain = true) (hpc : u.pc = s.pc)
    (hu : Frame c s u) :
    ∃ t, exec i s = .next t ∧ t = u.jump (if again then s.pc else nextPc i s) ∧ Frame c s t ∧ ControlFrame s t := by
  have hnext : u.pc + 2 = nextPc i s := by rw [nextPc_family, hf, hn, hpc]; rfl
  rw [blockEnd_eq, hnext, hpc] at hx
  have he := exec_of_family hf hx
  exact ⟨_, he, rfl, { hu with index := hu.index }, controlFrame_of_plain (hf ▸ hp) he⟩

/-- "BC is not 0", as the flags of the block instructions say it (R206, R210). -/
theorem decide_ne_zero (bc : Word) : decide (bc ≠ 0) = (bc != 0) := by
  rw [bne, beq_eq_decide, decide_not]

/-- The flags of a block transfer step (R206, R208). -/
theorem setF_transferFlags {s u : State} (hu : u.main.f = s.main.f) (bc : Word) :
    FlagsAre (u.setF (transferFlags bc)).main.f s.main.f.s s.main.f.z false (bc != 0) false s.main.f.c :=
  hu ▸ ⟨rfl, rfl, rfl, decide_ne_zero bc, rfl, rfl⟩

/-- The flags of a block search step (R210). -/
theorem setF_searchFlags {s u : State} (hu : u.main.f = s.main.f) (a v : Byte) (bc : Word) :
    FlagsAre (u.setF (searchFlags a v bc)).main.f (a - v).msb (a - v == 0) (decide (a.toNat % 16 < v.toNat % 16))
      (bc != 0) true s.main.f.c :=
  hu ▸ ⟨bit7_eq_msb _, (beq_eq_decide _ 0).symm, rfl, decide_ne_zero bc, rfl, rfl⟩

/-- The difference of two bytes, in the integers (R8). -/
theorem byte_sub (a v : Byte) : a - v = trunc8 ((a.toNat : Int) - v.toNat) := by
  apply BitVec.eq_of_toNat_eq
  have := a.isLt
  have := v.isLt
  simp only [trunc8, BitVec.toNat_ofInt, BitVec.toNat_sub]
  omega

end Sys2Proof.Machine

namespace Sys2Proof.Settled

open Sys2Proof Sys2Proof.Machine

/-- Settles O38: HL or the index register takes the word read at SP, after its own word has been written there. -/
theorem exchangeStack : Obligations.ExchangeStack := by
  unfold Obligations.ExchangeStack
  intro i s hc
  refine ⟨fun hf => ?_, fun x hf => ?_⟩
  · rw [Completes, hf] at hc
    obtain ⟨hr0, hr1, hw0, hw1⟩ := exchange_served hc
    have hframe : Frame { Changed.none with regs := [.h, .l], bytes := [.mem s.sp, .mem (s.sp + 1)] } s
        (((s.sawReadWord s.sp).sawWriteWord s.sp s.hl).setHl (s.readWord s.sp)) :=
      (Frame.exchange (by simp) (by simp) s.hl).setPair_of_mem (p := .hl) (by simp [Pair.regs]) nofun _
    obtain ⟨_, he, rfl, h⟩ := exec_exchange hf (exchangeHl_ok hr0 hr1 hw0 hw1) rfl (by simp) rfl hframe
    exact ⟨_, he, State.setHl_hl _ _, h⟩
  · rw [Completes, hf] at hc
    obtain ⟨hr0, hr1, hw0, hw1⟩ := exchange_served hc
    have hframe : Frame { Changed.none with index := [x], bytes := [.mem s.sp, .mem (s.sp + 1)] } s
        (((s.sawReadWord s.sp).sawWriteWord s.sp (s.index x)).setIndex x (s.readWord s.sp)) :=
      (Frame.exchange (by simp) (by simp) (s.index x)).setIndex (List.mem_singleton_self x) _
    obtain ⟨_, he, rfl, h⟩ := exec_exchange hf (exchangeIndex_ok x hr0 hr1 hw0 hw1) rfl (by simp) (State.setIndex_bus ..)
      hframe
    exact ⟨_, he, by rw [State.index_advance, State.index_setIndex_self], h⟩

/-- Settles O39: one step of `transfer`, at which a repeating form stays while BC has not run out. -/
theorem blockTransfer : Obligations.BlockTransfer := by
  unfold Obligations.BlockTransfer
  intro i s dir rep hf hc
  rw [Completes, hf] at hc
  obtain ⟨hr, hw⟩ := firstError_two hc
  have hframe : Frame { Changed.none with regs := [.b, .c, .d, .e, .h, .l], flags := true, bytes := [.mem s.de] } s
      ((((((s.sawRead (.mem s.hl)).sawWrite (.mem s.de) (s.readValue (.mem s.hl))).setDe (dir.step s.de)).setHl
        (dir.step s.hl)).setBc (s.bc - 1)).setF (transferFlags (s.bc - 1))) :=
    ((((((Frame.refl _ s).sawRead _).sawWrite (List.mem_singleton_self _) _).setPair_of_mem (p := .de) (by simp [Pair.regs])
      nofun _).setPair_of_mem (p := .hl) (by simp [Pair.regs]) nofun _).setPair_of_mem (p := .bc) (by simp [Pair.regs])
      nofun _).setF rfl _
  obtain ⟨_, he, rfl, h⟩ := exec_blockEnd hf (transfer_ok dir rep hr hw) rfl rfl (by simp) hframe
  refine ⟨_, he, by simp [dir.step_eq], by simp [dir.step_eq], by simpa using word_sub_one s.bc, ?_,
    if_congr (by simp) rfl rfl, rfl, h⟩
  rw [State.jump_bc, State.setF_bc, State.setBc_bc]
  exact setF_transferFlags (by simp) (s.bc - 1)

/-- Settles O40: one step of `search`, at which a repeating form stays while BC has not run out and the bytes differ. -/
theorem blockSearch : Obligations.BlockSearch := by
  unfold Obligations.BlockSearch
  intro i s dir rep hf hc
  rw [Completes, hf] at hc
  have hframe : Frame { Changed.none with regs := [.b, .c, .h, .l], flags := true } s
      ((((s.sawRead (.mem s.hl)).setHl (dir.step s.hl)).setBc (s.bc - 1)).setF
        (searchFlags s.main.a (s.readValue (.mem s.hl)) (s.bc - 1))) :=
    ((((Frame.refl _ s).sawRead _).setPair_of_mem (p := .hl) (by decide) nofun _).setPair_of_mem (p := .bc) (by decide)
      nofun _).setF rfl _
  obtain ⟨_, he, rfl, h⟩ := exec_blockEnd hf (search_ok dir rep (firstError_one hc)) rfl rfl (by simp) hframe
  refine ⟨_, _, _, he, rfl, rfl, by simp [dir.step_eq], by simpa using word_sub_one s.bc, ?_, if_congr ?_ rfl rfl, rfl, h⟩
  · rw [← byte_sub, State.jump_bc, State.setF_bc, State.setBc_bc]
    exact setF_searchFlags (by simp) s.main.a (s.readValue (.mem s.hl)) (s.bc - 1)
  · simp only [Bool.and_eq_true, decide_eq_true_eq, sub_ne_zero, and_assoc, State.jump_bc, State.setF_bc, State.setBc_bc]

end Sys2Proof.Settled
end

section
/-! SUPPORT. The proofs of the statements on 8-bit arithmetic and logic (43_alu8.md): signed overflow by sign bits, the eight
operations on A and an operand, and a byte that is read, changed and written back with flags. -/

namespace Sys2Proof.Machine

/-! ### Signed overflow by sign bits, for bytes and words (R230, R231, R321) -/

/-- A signed value by the half of the range it lies in, as `overflow_add` takes it. -/
theorem toInt_eq_ite {w : Nat} (x : BitVec (w + 1)) :
    x.toInt = if x.toNat < 2 ^ w then (x.toNat : Int) else x.toNat - 2 * (2 ^ w : Nat) := by
  rw [BitVec.toInt_eq_toNat_cond]
  have : 2 ^ (w + 1) = 2 * 2 ^ w := Nat.pow_succ'
  split <;> split <;> omega

/-- The sign bit is set in the upper half of the range. -/
theorem msb_iff_two_pow_le {w : Nat} (x : BitVec (w + 1)) : x.msb = true ↔ x.toNat ≥ 2 ^ w := by
  rw [BitVec.msb_eq_decide]; simp

/-- Signed overflow of an addition with carry, by sign bits (R230, R321). -/
theorem signedOverflow_add {w : Nat} (a v : BitVec (w + 1)) (c : Bool) :
    (a.toInt + v.toInt + c.toNat < -(2 ^ w : Nat) ∨ a.toInt + v.toInt + c.toNat > (2 ^ w : Nat) - 1) ↔
      a.msb = v.msb ∧ (BitVec.ofNat (w + 1) (a.toNat + v.toNat + c.toNat)).msb ≠ v.msb := by
  have hpow : 2 ^ (w + 1) = 2 * 2 ^ w := Nat.pow_succ'
  rw [toInt_eq_ite, toInt_eq_ite, overflow_add (2 ^ w) a.toNat v.toNat c.toNat (hpow ▸ a.isLt) (hpow ▸ v.isLt) c.toNat_le
    (Nat.two_pow_pos w), ← hpow, ← BitVec.toNat_ofNat]
  simp only [← msb_iff_two_pow_le, ← Bool.eq_iff_iff, ne_eq]

/-- Complementing a number reflects its signed value about -1/2. -/
theorem toInt_not_eq {w : Nat} (v : BitVec (w + 1)) : (~~~v).toInt = -v.toInt - 1 := by
  have hpow : 2 ^ (w + 1) = 2 * 2 ^ w := Nat.pow_succ'
  have := v.isLt
  rw [toInt_eq_ite, toInt_eq_ite, BitVec.toNat_not]
  split <;> split <;> omega

/-- A subtraction with borrow is the addition of the complement with the carry inverted. -/
theorem ofInt_sub_eq_add_not {w : Nat} (a v : BitVec w) (c : Bool) :
    BitVec.ofInt w ((a.toNat : Int) - v.toNat - c.toNat) = BitVec.ofNat w (a.toNat + (~~~v).toNat + (!c).toNat) := by
  have hv := v.isLt
  have hsum : ((a.toNat + (~~~v).toNat + (!c).toNat : Nat) : Int) = (a.toNat : Int) - v.toNat - c.toNat + (2 ^ w : Nat) := by
    rw [BitVec.toNat_not]
    cases c <;> simp only [Bool.not_false, Bool.not_true, Bool.toNat_false, Bool.toNat_true] <;> omega
  apply BitVec.eq_of_toNat_eq
  rw [← BitVec.ofInt_natCast, BitVec.toNat_ofInt, BitVec.toNat_ofInt, hsum, Int.add_emod_right]

/-- Signed overflow of a subtraction with borrow, by sign bits (R231, R321). -/
theorem signedOverflow_sub {w : Nat} (a v : BitVec (w + 1)) (c : Bool) :
    (a.toInt - v.toInt - c.toNat < -(2 ^ w : Nat) ∨ a.toInt - v.toInt - c.toNat > (2 ^ w : Nat) - 1) ↔
      a.msb ≠ v.msb ∧ (BitVec.ofInt (w + 1) ((a.toNat : Int) - v.toNat - c.toNat)).msb = v.msb := by
  have hval : a.toInt - v.toInt - c.toNat = a.toInt + (~~~v).toInt + (!c).toNat := by
    rw [toInt_not_eq]
    cases c <;> simp <;> omega
  rw [hval, ofInt_sub_eq_add_not, signedOverflow_add, BitVec.msb_not]
  simp [Bool.eq_not]

/-- An instruction whose accesses can be served answers a state (R86). -/
theorem Completes.exec_next {i : Instr} {s : State} (hc : Completes i s) : ∃ t, exec i s = .next t := by
  have h := exec_runs i s
  rw [Runs, hc] at h
  exact ⟨h.choose, h.choose_spec.1⟩

/-! ### The eight operations on A and an operand (R230 to R234) -/

/-- The flags of an addition, P/V in its equivalent form (R230). -/
theorem add8_flags {r : Byte} (a v : Byte) (c : Bool) (hr : r = (add8 a v c).res) (d5 d3 : Bool) (f : Flags) :
    FlagsAre ((add8 a v c).flags.apply d5 d3 f) r.msb (r == 0) (decide (a.toNat % 16 + v.toNat % 16 + c.toNat > 15))
      (a.msb == v.msb && r.msb != v.msb) false (decide (a.toNat + v.toNat + c.toNat > 255)) := by
  subst hr
  have hpv := signedOverflow_add (w := 7) a v c
  refine ⟨bit7_eq_msb _, (beq_eq_decide _ 0).symm, rfl, ?_, rfl, rfl⟩
  rw [Bool.eq_iff_iff]
  simpa [add8, FlagSet.apply] using hpv

/-- The flags of a subtraction, P/V in its equivalent form (R231). -/
theorem sub8_flags {r : Byte} (a v : Byte) (c : Bool) (hr : r = (sub8 a v c).res) (d5 d3 : Bool) (f : Flags) :
    FlagsAre ((sub8 a v c).flags.apply d5 d3 f) r.msb (r == 0) (decide (a.toNat % 16 < v.toNat % 16 + c.toNat))
      (a.msb != v.msb && r.msb == v.msb) true (decide (a.toNat < v.toNat + c.toNat)) := by
  subst hr
  have hpv := signedOverflow_sub (w := 7) a v c
  refine ⟨bit7_eq_msb _, (beq_eq_decide _ 0).symm, rfl, ?_, rfl, decide_eq_decide.mpr (by omega)⟩
  rw [Bool.eq_iff_iff]
  simpa [sub8, FlagSet.apply] using hpv

/-- The flags of a logic operation (R232). -/
theorem logicFlags_apply (r : Byte) (h d5 d3 : Bool) (f : Flags) :
    FlagsAre ((logicFlags r h).apply d5 d3 f) r.msb (r == 0) h (evenOnes r) false false :=
  ⟨bit7_eq_msb r, (beq_eq_decide r 0).symm, rfl, parity_eq_evenOnes r, rfl, rfl⟩

/-- The write to A: CP writes none (R234). -/
theorem AluOp.writeBack_eq (op : AluOp) (res : Byte) (s : State) :
    op.writeBack res s = if op = .cp then s else s.setReg8 .a res := by
  cases op <;> rfl

theorem AluOp.writeBack_a (op : AluOp) (res : Byte) (s : State) :
    (op.writeBack res s).main.a = if op = .cp then s.main.a else res := by cases op <;> rfl
theorem AluOp.writeBack_f (op : AluOp) (res : Byte) (s : State) : (op.writeBack res s).main.f = s.main.f := by
  cases op <;> rfl

/-- The frame of the write to A. -/
theorem Frame.writeBack {c : Changed} {s t : State} (h : Frame c s t) {op : AluOp} (hr : op ≠ .cp → .a ∈ c.regs)
    (res : Byte) : Frame c s (op.writeBack res t) := by
  rw [AluOp.writeBack_eq]
  split
  · exact h
  · exact h.setReg8 (hr ‹_›) res

/-- Reading the operand leaves the registers and PC alone (R234). -/
theorem aluOperand_read {f : Family} {s u : State} {op : AluOp} {v : Byte} (h : aluOperand f s = some (op, v, u)) :
    u.main = s.main ∧ u.pc = s.pc ∧ ∀ c, Frame c s u := by
  cases f with
  | aluR | aluN => cases h; exact ⟨rfl, rfl, fun c => .refl c s⟩
  | aluHl | aluIdx => cases h; exact ⟨s.sawRead_main _, s.sawRead_pc _, fun c => (Frame.refl c s).sawRead _⟩
  | _ => cases h

/-- Every operand form is `alu` once the operand is read (R240 to R271). -/
theorem aluOperand_meaning {f : Family} {s u : State} {op : AluOp} {v : Byte} (h : aluOperand f s = some (op, v, u))
    (hc : firstError s.bus (accesses f s) = none) : f.exec s = alu op v f.encoding.length u ∧ f.plain = true := by
  cases f with
  | aluR | aluN => cases h; exact ⟨rfl, rfl⟩
  | aluHl | aluIdx =>
    cases h
    have hr : s.bus.readError _ = none := firstError_one hc
    exact ⟨by rw [Family.exec, aluMem_eq, hr]; rfl, rfl⟩
  | _ => cases h

/-- What each of the eight operations does in every operand form, in terms of `AluOp.compute` (R234). -/
theorem exec_alu {i : Instr} {s u : State} {op : AluOp} {v : Byte} {r : ByteResult}
    (h : aluOperand i.family s = some (op, v, u)) (hr : op.compute s.main.a v s.main.f.c = r) (hc : Completes i s) :
    ∃ t d5 d3, exec i s = .next t ∧ t.main.a = (if op = .cp then s.main.a else r.res) ∧
      t.main.f = r.flags.apply d5 d3 s.main.f ∧ t.pc = nextPc i s ∧ t.bus = u.bus ∧
      Frame { Changed.none with regs := (if op = .cp then [] else [.a]), flags := true } s t ∧ ControlFrame s t := by
  subst hr
  obtain ⟨hm, hp⟩ := aluOperand_meaning h hc
  obtain ⟨hmain, hpc, hframe⟩ := aluOperand_read h
  have he := (exec_family i s).trans hm
  rw [alu, hmain] at he
  have ha := op.writeBack_a (op.compute s.main.a v s.main.f.c).res u
  have hf := State.setF_f (op.writeBack (op.compute s.main.a v s.main.f.c).res u) (op.compute s.main.a v s.main.f.c).flags
  rw [hmain] at ha
  rw [AluOp.writeBack_f, hmain] at hf
  exact ⟨_, _, _, he, ha, hf, by simp [nextPc_family, hpc], by simp,
    (((hframe _).writeBack (fun hn => by simp [hn]) _).setF rfl _).advance _, controlFrame_of_plain hp he⟩

/-- ADD and ADC compute `add8`, ADD without a carry in (R230). -/
theorem AluOp.compute_add {op : AluOp} {c carry : Bool} (h : op = .add ∧ c = false ∨ op = .adc ∧ c = carry) (a v : Byte) :
    op ≠ .cp ∧ op.compute a v carry = add8 a v c := by
  rcases h with ⟨rfl, rfl⟩ | ⟨rfl, rfl⟩
  · exact ⟨nofun, rfl⟩
  · exact ⟨nofun, rfl⟩

/-- SUB, SBC and CP compute `sub8`, SUB and CP without a borrow in (R231, R234). -/
theorem AluOp.compute_sub {op : AluOp} {c carry : Bool} (h : (op = .sub ∨ op = .cp) ∧ c = false ∨ op = .sbc ∧ c = carry)
    (a v : Byte) : op.compute a v carry = sub8 a v c := by
  rcases h with ⟨rfl | rfl, rfl⟩ | ⟨rfl, rfl⟩
  · rfl
  · rfl
  · rfl

/-- AND, XOR and OR work bit by bit, and their flags are `logicFlags` of what they make (R232). -/
theorem AluOp.compute_logic {op : AluOp} (h : op = .and ∨ op = .xor ∨ op = .or) (a v : Byte) (carry : Bool) :
    op ≠ .cp ∧ (op.compute a v carry).flags = logicFlags (op.compute a v carry).res (op == .and) ∧
      ∀ k, (op.compute a v carry).res.getLsbD k =
        (if op = .and then a.getLsbD k && v.getLsbD k
         else if op = .xor then a.getLsbD k != v.getLsbD k
         else a.getLsbD k || v.getLsbD k) := by
  rcases h with rfl | rfl | rfl
  · exact ⟨nofun, rfl, fun k => BitVec.getLsbD_and⟩
  · exact ⟨nofun, rfl, fun k => BitVec.getLsbD_xor⟩
  · exact ⟨nofun, rfl, fun k => BitVec.getLsbD_or⟩

/-! ### A byte that is read, changed and written back, with flags (R272 to R277, R346 to R366) -/

/-- The state in which the operand has been read and then written. -/
def Operand.write (o : Operand) (v : Byte) (s : State) : State :=
  match o with
  | .reg r => s.setReg8 r v
  | .mem a => (s.sawRead (.mem a)).sawWrite (.mem a) v

/-- The shared meaning of the instructions that update an operand: `updateReg` or `updateByte`. -/
def Operand.update (g : Byte → ByteResult) (o : Operand) (len : Nat) (s : State) : Out State :=
  match o with
  | .reg r => updateReg g r len s
  | .mem a => updateByte g a len s

@[simp] theorem Operand.write_pc (o : Operand) (v : Byte) (s : State) : (o.write v s).pc = s.pc := by
  cases o with
  | reg r => rfl
  | mem a => exact s.sawRead_pc _

theorem Operand.write_f (o : Operand) (v : Byte) (s : State) : (o.write v s).main.f = s.main.f := by
  cases o with
  | reg r => exact s.setReg8_f r v
  | mem a => exact congrArg Bank.f (s.sawRead_main _)

/-- What has been written is there, also after the flags and PC. -/
theorem Operand.write_wrote (o : Operand) (v : Byte) (u : FlagSet) (n : Nat) (s : State) :
    o.Wrote v s (((o.write v s).setF u).advance n) := by
  cases o with
  | reg r => exact ⟨by simp [Operand.write], rfl⟩
  | mem a => rfl

theorem Operand.write_frame (o : Operand) (v : Byte) (flags : Bool) (s : State) :
    Frame (o.changed flags) s (o.write v s) := by
  cases o with
  | reg r => exact (Frame.refl _ s).setReg8 (List.mem_singleton_self r) v
  | mem a => exact ((Frame.refl _ s).sawRead _).sawWrite (List.mem_singleton_self _) v

theorem Operand.changed_flags (o : Operand) (flags : Bool) : (o.changed flags).flags = flags := by cases o <;> rfl

/-- An update that answers a state has read the operand, written it and the flags, and moved on. -/
theorem Operand.update_eq_next {g : Byte → ByteResult} {o : Operand} {len : Nat} {s t : State}
    (h : o.update g len s = .next t) :
    t = ((o.write (g (o.value s)).res s).setF (g (o.value s)).flags).advance len := by
  cases o with
  | reg r => cases h; rfl
  | mem a =>
    rw [Operand.update, updateByte_eq] at h
    split at h
    · cases h
    · split at h
      · cases h
      · cases h; rfl

/-- What an instruction does that updates an operand, in terms of the result byte and its flags. -/
theorem exec_update {i : Instr} {s : State} {g : Byte → ByteResult} {o : Operand} {r : ByteResult}
    (hm : i.family.exec s = o.update g i.family.encoding.length s) (hp : i.family.plain = true) (hr : g (o.value s) = r)
    (hc : Completes i s) :
    ∃ t d5 d3, exec i s = .next t ∧ o.Wrote r.res s t ∧ t.main.f = r.flags.apply d5 d3 s.main.f ∧ t.pc = nextPc i s ∧
      Frame (o.changed true) s t ∧ ControlFrame s t := by
  subst hr
  obtain ⟨t, he⟩ := hc.exec_next
  obtain rfl := Operand.update_eq_next (hm.symm.trans ((exec_family i s).symm.trans he))
  have hf := State.setF_f (o.write (g (o.value s)).res s) (g (o.value s)).flags
  rw [Operand.write_f] at hf
  exact ⟨_, _, _, he, o.write_wrote _ _ _ s, hf, by simp [nextPc_family],
    ((o.write_frame _ true s).setF (o.changed_flags true) _).advance _, controlFrame_of_plain hp he⟩

/-- INC for `true`, DEC for `false` (R235, R236). -/
def incDec8 (up : Bool) : Byte → ByteResult := if up then inc8 else dec8

/-- INC and DEC of a byte are one meaning (R272 to R277). -/
theorem incDecOperand_meaning {f : Family} {s : State} {up : Bool} {o : Operand} (h : incDecOperand f s = some (up, o)) :
    f.exec s = o.update (incDec8 up) f.encoding.length s ∧ f.plain = true := by
  cases f with
  | incR | incHl | incIdx | decR | decHl | decIdx => cases h; exact ⟨rfl, rfl⟩
  | _ => cases h

/-- The result of INC or DEC, in the integers (R8, R235, R236). -/
theorem incDec8_res (up : Bool) (v : Byte) : (incDec8 up v).res = trunc8 (v.toNat + (if up then 1 else -1)) := by
  cases up with
  | false => rfl
  | true => exact (trunc8_natCast (v.toNat + 1)).symm

/-- The flags of INC or DEC: C is kept (R235, R236). -/
theorem incDec8_flags (up : Bool) (v : Byte) (d5 d3 : Bool) (f : Flags) :
    FlagsAre ((incDec8 up v).flags.apply d5 d3 f) (incDec8 up v).res.msb ((incDec8 up v).res == 0)
      (decide (v.toNat % 16 = if up then 15 else 0)) (v == if up then 0x7F#8 else 0x80#8) (!up) f.c := by
  cases up with
  | false | true => exact ⟨bit7_eq_msb _, (beq_eq_decide _ 0).symm, rfl, (beq_eq_decide v _).symm, rfl, rfl⟩

end Sys2Proof.Machine

namespace Sys2Proof.Settled

open Sys2Proof Sys2Proof.Machine

/-- Settles O41: both operations are `add8`, whose signed overflow shows in the sign bits. -/
theorem addBytes : Obligations.AddBytes := by
  unfold Obligations.AddBytes
  intro i s u op v c h hop hc
  obtain ⟨hcp, hr⟩ := AluOp.compute_add hop s.main.a v
  obtain ⟨t, d5, d3, he, ha, hf, ht⟩ := exec_alu h hr hc
  rw [if_neg hcp] at ha ht
  exact ⟨t, he, ha.trans (trunc8_natCast _).symm, hf ▸ add8_flags _ _ _ ha .., ht⟩

/-- Settles O42: all three operations are `sub8`, whose signed overflow shows in the sign bits; CP drops the result. -/
theorem subtractBytes : Obligations.SubtractBytes := by
  unfold Obligations.SubtractBytes
  intro i s u op v c h hop hc
  obtain ⟨t, d5, d3, he, ha, hf, ht⟩ := exec_alu h (AluOp.compute_sub hop s.main.a v) hc
  exact ⟨t, _, he, rfl, ha, hf ▸ sub8_flags _ _ _ rfl .., ht⟩

/-- Settles O43: the three operations are bitwise, with the flags of `logicFlags`. -/
theorem logicBytes : Obligations.LogicBytes := by
  unfold Obligations.LogicBytes
  intro i s u op v h hop hc
  obtain ⟨hcp, hflags, hbits⟩ := AluOp.compute_logic hop s.main.a v s.main.f.c
  obtain ⟨t, d5, d3, he, ha, hf, ht⟩ := exec_alu h rfl hc
  rw [if_neg hcp] at ha ht
  rw [hflags, ← ha] at hf
  exact ⟨t, he, fun k _ => ha ▸ hbits k, hf ▸ logicFlags_apply .., ht⟩

/-- Settles O44: every form updates its operand by `inc8` or `dec8`. -/
theorem incrementByte : Obligations.IncrementByte := by
  unfold Obligations.IncrementByte
  intro i s up o h hc
  obtain ⟨hm, hp⟩ := incDecOperand_meaning h
  obtain ⟨t, d5, d3, he, hw, hf, ht⟩ := exec_update hm hp rfl hc
  exact ⟨t, _, he, incDec8_res up _, hw, hf ▸ incDec8_flags .., ht⟩

end Sys2Proof.Settled
end

section
/-! SUPPORT. The proofs of the statements on general arithmetic and CPU control (44_general_cpu.md): the results and flags of
DAA, CPL and NEG, and the instructions that write A, the flags or one control register and move on. -/

namespace Sys2Proof.Machine

/-! ### The results and flags of DAA, CPL and NEG (R300 to R302) -/

/-- What DAA adds to A, or subtracts from it (R300). -/
def daaCorrection (a : Byte) (hf cf : Bool) : Nat :=
  (if hf = true ∨ a.toNat % 16 > 9 then 6 else 0) + (if cf = true ∨ a.toNat > 0x99 then 0x60 else 0)

/-- The result of DAA, in the integers (R8, R300). -/
theorem daa8_res (a : Byte) (hf nf cf : Bool) :
    (daa8 a hf nf cf).res =
      trunc8 (if nf then (a.toNat : Int) - daaCorrection a hf cf else a.toNat + daaCorrection a hf cf) := by
  have correction : (if cf || decide (a.toNat > 0x99) then (if hf || decide (a.toNat % 16 > 9) then 0x06 else 0) + 0x60
      else if hf || decide (a.toNat % 16 > 9) then 0x06 else 0) = daaCorrection a hf cf := by
    simp only [daaCorrection, Bool.or_eq_true, decide_eq_true_eq]
    split
    · rfl
    · exact (Nat.add_zero _).symm
  simp only [daa8, correction]
  cases nf with
  | false => exact (trunc8_natCast _).symm
  | true => rfl

/-- The flags of DAA: N is kept (R300). -/
theorem daa8_flags (a : Byte) (hf nf cf d5 d3 : Bool) (f : Flags) :
    FlagsAre ((daa8 a hf nf cf).flags.apply d5 d3 f) (daa8 a hf nf cf).res.msb ((daa8 a hf nf cf).res == 0)
      (if nf then hf && decide (a.toNat % 16 < 6) else decide (a.toNat % 16 > 9)) (evenOnes (daa8 a hf nf cf).res) f.n
      (cf || decide (a.toNat > 0x99)) :=
  ⟨bit7_eq_msb _, (beq_eq_decide _ 0).symm, rfl, parity_eq_evenOnes _, rfl, rfl⟩

/-- CPL complements A bit by bit (R301). -/
theorem cpl8_res_bits (a : Byte) (k : Nat) (hk : k < 8) : (cpl8 a).res.getLsbD k = !a.getLsbD k := by
  have complement : (cpl8 a).res = ~~~a := by
    apply BitVec.eq_of_toNat_eq
    rw [BitVec.toNat_not]
    exact Nat.mod_eq_of_lt (by omega)
  simp [complement, hk]

/-- The result of NEG, in the integers (R8, R302). -/
theorem neg8_res (a : Byte) : (sub8 0 a false).res = trunc8 (-(a.toNat : Int)) :=
  congrArg trunc8 (by simp)

/-- Zero minus a byte overflows at -128 alone (R302). -/
theorem neg8_overflow (a : Byte) : 0 - a.toInt < -128 ∨ 0 - a.toInt > 127 ↔ a = 0x80#8 := by
  have low : -128 ≤ a.toInt := a.le_toInt
  have high : a.toInt < 128 := a.toInt_lt
  have bound : (0x80#8).toInt = -128 := rfl
  rw [← BitVec.toInt_inj, bound]
  omega

/-- The flags of NEG (R302). -/
theorem neg8_flags (a : Byte) (d5 d3 : Bool) (f : Flags) :
    FlagsAre ((sub8 0 a false).flags.apply d5 d3 f) (sub8 0 a false).res.msb ((sub8 0 a false).res == 0)
      (decide (a.toNat % 16 ≠ 0)) (a == 0x80#8) true (a != 0) := by
  refine ⟨bit7_eq_msb _, (beq_eq_decide _ 0).symm, decide_eq_decide.mpr ?_, ?_, rfl, ?_⟩
  · simp [Nat.pos_iff_ne_zero]
  · rw [beq_eq_decide]
    exact decide_eq_decide.mpr (by simpa using neg8_overflow a)
  · rw [bne, beq_eq_decide, ← decide_not]
    exact decide_eq_decide.mpr (by simp [← BitVec.toNat_inj, Nat.pos_iff_ne_zero])

/-- A Flags line that says nothing of S, Z and P/V leaves them unchanged (R13). -/
theorem carryFlagsAre_of_apply {s t : State} {u : FlagSet} {d5 d3 : Bool} (hf : t.main.f = u.apply d5 d3 s.main.f)
    (hs : u.s = none) (hz : u.z = none) (hpv : u.pv = none) :
    CarryFlagsAre s t (u.h.getD s.main.f.h) (u.n.getD s.main.f.n) (u.c.getD s.main.f.c) := by
  simp [CarryFlagsAre, FlagsAre, hf, FlagSet.apply, hs, hz, hpv]

/-! ### The shapes of the instructions -/

/-- The encoding of an instruction whose family is known. -/
theorem encode_of_family {i : Instr} {f : Family} (hf : i.family = f) : encode i = f.encoding := by rw [encode_family, hf]

/-- An instruction whose meaning is `putA` changes A, the flags and PC alone (R300 to R302). -/
theorem exec_putA {i : Instr} {s : State} {x : ByteResult} {f : Family} (hf : i.family = f)
    (hx : f.exec s = putA x f.encoding.length s) (hp : f.plain = true) :
    ∃ t d5 d3, exec i s = .next t ∧ t.main.a = x.res ∧ t.main.f = x.flags.apply d5 d3 s.main.f ∧ t.pc = nextPc i s ∧
      t.bus = s.bus ∧ ControlFrame s t ∧ Frame { Changed.none with regs := [.a], flags := true } s t := by
  have hframe : Frame { Changed.none with regs := [.a], flags := true } s ((s.setReg8 .a x.res).setF x.flags) :=
    ((Frame.refl _ s).setReg8 (List.mem_singleton_self _) _).setF rfl _
  obtain ⟨_, he, rfl, h⟩ := exec_update_advance hf hx hp rfl rfl hframe
  exact ⟨_, _, _, he, rfl, rfl, h⟩

/-- An instruction that writes flags by `setF` and moves on changes the flags and PC alone (R303, R304). -/
theorem exec_setF_advance {i : Instr} {s : State} {u : FlagSet} {f : Family} (hf : i.family = f)
    (hx : f.exec s = .next ((s.setF u).advance f.encoding.length)) (hp : f.plain = true) :
    ∃ t d5 d3, exec i s = .next t ∧ t.main.f = u.apply d5 d3 s.main.f ∧ t.pc = nextPc i s ∧ t.bus = s.bus ∧
      ControlFrame s t ∧ Frame { Changed.none with flags := true } s t := by
  obtain ⟨_, he, rfl, h⟩ := exec_update_advance hf hx hp rfl rfl
    ((Frame.refl { Changed.none with flags := true } s).setF rfl u)
  exact ⟨_, _, _, he, rfl, h⟩

/-- An instruction that makes `u`, where PC is kept, and moves on: its encoding and its whole next state (R12). -/
theorem exec_advance {i : Instr} {s u : State} {f : Family} (hf : i.family = f)
    (hx : f.exec s = .next (u.advance f.encoding.length)) (hpc : u.pc = s.pc) :
    encode i = f.encoding ∧ exec i s = .next { u with pc := nextPc i s } := by
  refine ⟨encode_of_family hf, ?_⟩
  rw [exec_of_family hf hx, nextPc_family, hf, ← hpc]
  rfl

end Sys2Proof.Machine

namespace Sys2Proof.Settled

open Sys2Proof Sys2Proof.Machine

/-- Settles O45: DAA writes the result and the flags of `daa8`. -/
theorem decimalAdjust : Obligations.DecimalAdjust := by
  unfold Obligations.DecimalAdjust
  rintro i s a lo t hf rfl rfl rfl
  obtain ⟨u, d5, d3, he, ha, hflags, hpc, hbus, hcontrol, hframe⟩ := exec_putA hf rfl rfl
  refine ⟨encode_of_family hf, u, he, ha.trans (daa8_res ..), ?_, hpc, hbus, hframe, hcontrol⟩
  rw [hflags, ha]
  exact daa8_flags ..

/-- Settles O46: CPL and NEG write A by `putA`; CCF and SCF write flags alone. -/
theorem accumulatorAndFlags : Obligations.AccumulatorAndFlags := by
  unfold Obligations.AccumulatorAndFlags
  intro i s
  refine ⟨fun hf => ⟨encode_of_family hf, ?_⟩, fun hf => ⟨encode_of_family hf, ?_⟩,
    fun hf => ⟨encode_of_family hf, ?_⟩, fun hf => ⟨encode_of_family hf, ?_⟩⟩
  · obtain ⟨t, d5, d3, he, ha, hflags, h⟩ := exec_putA hf rfl rfl
    exact ⟨t, he, ha ▸ cpl8_res_bits s.main.a, carryFlagsAre_of_apply hflags rfl rfl rfl, h⟩
  · obtain ⟨t, d5, d3, he, ha, hflags, h⟩ := exec_putA hf rfl rfl
    exact ⟨t, he, ha.trans (neg8_res _), hflags ▸ ha ▸ neg8_flags .., h⟩
  · obtain ⟨t, d5, d3, he, hflags, h⟩ := exec_setF_advance hf rfl rfl
    exact ⟨t, he, carryFlagsAre_of_apply hflags rfl rfl rfl, h⟩
  · obtain ⟨t, d5, d3, he, hflags, h⟩ := exec_setF_advance hf rfl rfl
    exact ⟨t, he, carryFlagsAre_of_apply hflags rfl rfl rfl, h⟩

/-- Settles O47: each form writes its control bits and moves on. -/
theorem cpuControl : Obligations.CpuControl := by
  unfold Obligations.CpuControl
  intro i s
  exact ⟨fun hf => exec_advance hf rfl rfl, fun hf => exec_advance hf rfl rfl, fun hf => exec_advance hf rfl rfl,
    fun hf => exec_advance hf rfl rfl, fun m hf => exec_advance hf rfl rfl⟩

end Sys2Proof.Settled
end

section
/-! SUPPORT. The proofs of the statements on 16-bit arithmetic (45_alu16.md): the results and flags of `add16`, `adc16` and
`sbc16`, the instructions that write a word and the flags, and the increments of a word. -/

namespace Sys2Proof.Machine

/-! ### The flags of the 16-bit sums and differences (R320, R321) -/

/-- ADD writes H, N and C and leaves S, Z and P/V alone (R320). -/
theorem add16_flags {s t : State} {a v : Word} {d5 d3 : Bool} (hf : t.main.f = (add16 a v).flags.apply d5 d3 s.main.f) :
    CarryFlagsAre s t (decide (a.toNat % 4096 + v.toNat % 4096 ≥ 4096)) false (decide (a.toNat + v.toNat ≥ 65536)) :=
  carryFlagsAre_of_apply hf rfl rfl rfl

/-- The flags of ADC, P/V by the sign bits (R321). -/
theorem adc16_flags {r : Word} (a v : Word) (c : Bool) (hr : r = (adc16 a v c).res) (d5 d3 : Bool) (f : Flags) :
    FlagsAre ((adc16 a v c).flags.apply d5 d3 f) r.msb (r == 0) (decide (a.toNat % 4096 + v.toNat % 4096 + c.toNat ≥ 4096))
      (a.msb == v.msb && r.msb != v.msb) false (decide (a.toNat + v.toNat + c.toNat ≥ 65536)) := by
  subst hr
  have hpv := signedOverflow_add (w := 15) a v c
  refine ⟨bit15_eq_msb _, (beq_eq_decide _ 0).symm, rfl, ?_, rfl, rfl⟩
  rw [Bool.eq_iff_iff]
  simpa [adc16, FlagSet.apply] using hpv

/-- The flags of SBC, P/V by the sign bits (R321). -/
theorem sbc16_flags {r : Word} (a v : Word) (c : Bool) (hr : r = (sbc16 a v c).res) (d5 d3 : Bool) (f : Flags) :
    FlagsAre ((sbc16 a v c).flags.apply d5 d3 f) r.msb (r == 0) (decide (a.toNat % 4096 < v.toNat % 4096 + c.toNat))
      (a.msb != v.msb && r.msb == v.msb) true (decide (a.toNat < v.toNat + c.toNat)) := by
  subst hr
  have hpv := signedOverflow_sub (w := 15) a v c
  refine ⟨bit15_eq_msb _, (beq_eq_decide _ 0).symm, rfl, ?_, rfl, decide_eq_decide.mpr (by omega)⟩
  rw [Bool.eq_iff_iff]
  simpa [sbc16, FlagSet.apply] using hpv

/-! ### The shapes of the instructions -/

/-- An instruction whose meaning is `putHl` changes HL, the flags and PC alone (R322 to R324). -/
theorem exec_putHl {i : Instr} {s : State} {x : WordResult} {f : Family} (hf : i.family = f)
    (hx : f.exec s = putHl x f.encoding.length s) (hp : f.plain = true) :
    ∃ t d5 d3, exec i s = .next t ∧ t.hl = x.res ∧ t.main.f = x.flags.apply d5 d3 s.main.f ∧ t.pc = nextPc i s ∧
      t.bus = s.bus ∧ ControlFrame s t ∧ Frame { Changed.none with regs := [.h, .l], flags := true } s t := by
  have hframe : Frame { Changed.none with regs := [.h, .l], flags := true } s ((s.setHl x.res).setF x.flags) :=
    ((Frame.refl _ s).setPair_of_mem (p := .hl) (by simp [Pair.regs]) nofun _).setF rfl _
  obtain ⟨_, he, rfl, h⟩ := exec_update_advance hf hx hp rfl rfl hframe
  exact ⟨_, _, _, he, s.setHl_hl x.res, rfl, h⟩

/-- An instruction whose meaning is `putIndex` changes its index register, the flags and PC alone (R325). -/
theorem exec_putIndex {i : Instr} {s : State} {x : Index} {w : WordResult} {f : Family} (hf : i.family = f)
    (hx : f.exec s = putIndex x w s) (hn : f.encoding.length = 2) (hp : f.plain = true) :
    ∃ t d5 d3, exec i s = .next t ∧ t.index x = w.res ∧ t.main.f = w.flags.apply d5 d3 s.main.f ∧ t.pc = nextPc i s ∧
      t.bus = s.bus ∧ ControlFrame s t ∧ Frame { Changed.none with index := [x], flags := true } s t := by
  have hframe : Frame { Changed.none with index := [x], flags := true } s ((s.setIndex x w.res).setF w.flags) :=
    ((Frame.refl _ s).setIndex (List.mem_singleton_self x) _).setF rfl _
  rw [putIndex, ← hn] at hx
  obtain ⟨_, he, rfl, h⟩ := exec_update_advance hf hx hp (by simp) (by simp) hframe
  have hflags := (s.setIndex x w.res).setF_f w.flags
  rw [State.setIndex_main] at hflags
  exact ⟨_, _, _, he, by simp, hflags, h⟩

/-- An instruction that writes a pair or SP and moves on changes it and PC alone (R170, R326, R328). -/
theorem exec_setPair_advance {i : Instr} {s : State} {p : Pair} {v : Word} {f : Family} (hf : i.family = f)
    (hx : f.exec s = .next ((s.setPair p v).advance f.encoding.length)) (hp : f.plain = true) :
    ∃ t, exec i s = .next t ∧ t.pair p = v ∧ t.pc = nextPc i s ∧ t.bus = s.bus ∧ ControlFrame s t ∧
      Frame p.changed s t := by
  obtain ⟨_, he, rfl, h⟩ := exec_update_advance hf hx hp (s.setPair_pc p v) (s.setPair_bus p v) ((Frame.refl _ s).setPair v)
  exact ⟨_, he, s.pair_setPair p v, h⟩

/-- An instruction that writes an index register and moves on changes it and PC alone (R171, R327, R329). -/
theorem exec_setIndex_advance {i : Instr} {s : State} {x : Index} {v : Word} {f : Family} (hf : i.family = f)
    (hx : f.exec s = .next ((s.setIndex x v).advance f.encoding.length)) (hp : f.plain = true) :
    ∃ t, exec i s = .next t ∧ t.index x = v ∧ t.pc = nextPc i s ∧ t.bus = s.bus ∧ ControlFrame s t ∧
      Frame { Changed.none with index := [x] } s t := by
  obtain ⟨_, he, rfl, h⟩ := exec_update_advance hf hx hp (s.setIndex_pc x v) (s.setIndex_bus x v)
    ((Frame.refl { Changed.none with index := [x] } s).setIndex (List.mem_singleton_self x) v)
  exact ⟨_, he, by simp, h⟩

end Sys2Proof.Machine

namespace Sys2Proof.Settled

open Sys2Proof Sys2Proof.Machine

/-- Settles O48: both forms are `add16`, into HL by `putHl` and into the index register by `putIndex`. -/
theorem addWords : Obligations.AddWords := by
  unfold Obligations.AddWords
  intro i s
  refine ⟨fun p hf => ?_, fun x p hf => ?_⟩
  · obtain ⟨t, d5, d3, he, hres, hflags, h⟩ := exec_putHl hf rfl rfl
    exact ⟨t, he, hres.trans (trunc16_natCast _).symm, add16_flags hflags, h⟩
  · obtain ⟨t, d5, d3, he, hres, hflags, h⟩ := exec_putIndex hf rfl rfl rfl
    exact ⟨t, s.indexPair x p, he, by cases p <;> rfl, hres.trans (trunc16_natCast _).symm, add16_flags hflags, h⟩

/-- Settles O49: the two operations are `adc16` and `sbc16`, whose signed overflow shows in the sign bits. -/
theorem addSubtractWordsWithCarry : Obligations.AddSubtractWordsWithCarry := by
  unfold Obligations.AddSubtractWordsWithCarry
  rintro i s p a v c rfl rfl rfl
  refine ⟨fun hf => ?_, fun hf => ?_⟩
  · obtain ⟨t, d5, d3, he, hres, hflags, h⟩ := exec_putHl hf rfl rfl
    exact ⟨t, he, hres.trans (trunc16_natCast _).symm, hflags ▸ adc16_flags _ _ _ hres .., h⟩
  · obtain ⟨t, d5, d3, he, hres, hflags, h⟩ := exec_putHl hf rfl rfl
    exact ⟨t, he, hres, hflags ▸ sbc16_flags _ _ _ hres .., h⟩

/-- Settles O50: every form writes its word, one more or one less, and moves on. -/
theorem incrementWord : Obligations.IncrementWord := by
  unfold Obligations.IncrementWord
  intro i s delta
  refine ⟨fun p => ?_, fun x => ?_⟩
  · rintro (⟨hf, rfl⟩ | ⟨hf, rfl⟩)
    · exact word_add_one (s.pair p) ▸ exec_setPair_advance hf rfl rfl
    · exact word_sub_one (s.pair p) ▸ exec_setPair_advance hf rfl rfl
  · rintro (⟨hf, rfl⟩ | ⟨hf, rfl⟩)
    · exact word_add_one (s.index x) ▸ exec_setIndex_advance hf rfl rfl
    · exact word_sub_one (s.index x) ▸ exec_setIndex_advance hf rfl rfl

end Sys2Proof.Settled
end

section
/-! SUPPORT. The proofs of the statements on rotates and shifts (46_rotate_shift.md): the one-place moves bit by bit, the
operands they are applied to, and the digit rotates as a rotation of one 12-bit number. -/

namespace Sys2Proof.Machine

/-! ### One place to the left or to the right (R340) -/

/-- Doubling with a bit added appends that bit below and drops the top one. -/
theorem ofNat_double_add_bit (v : Byte) (b : Bool) :
    BitVec.ofNat 8 (2 * v.toNat % 256 + b.toNat) = (v.concat b).setWidth 8 := by
  apply BitVec.eq_of_toNat_eq
  have := b.toNat_le
  simp only [BitVec.toNat_ofNat, BitVec.toNat_setWidth, BitVec.toNat_concat]
  omega

/-- Halving with a bit added at the top appends that bit above and drops the lowest one. -/
theorem ofNat_half_add_bit (v : Byte) (b : Bool) :
    BitVec.ofNat 8 (v.toNat / 2 + 128 * b.toNat) = (v.cons b).extractLsb' 1 8 := by
  apply BitVec.eq_of_toNat_eq
  have := v.isLt
  have := b.toNat_le
  simp only [BitVec.toNat_ofNat, BitVec.extractLsb'_toNat, BitVec.toNat_cons', Nat.shiftLeft_eq, Nat.shiftRight_eq_div_pow]
  omega

/-- A left operation doubles, with the entering bit below. -/
theorem ShiftOp.shift_of_left {op : ShiftOp} (h : op.left = true) (v : Byte) (c : Bool) :
    op.shift v c = (BitVec.ofNat 8 (2 * v.toNat % 256 + (op.enters v c).toNat), v.getLsbD 7) := by
  cases op with
  | rlc | rl | sla => rfl
  | rrc | rr | sra | srl => cases h

/-- A right operation halves, with the entering bit at the top. -/
theorem ShiftOp.shift_of_right {op : ShiftOp} (h : op.left = false) (v : Byte) (c : Bool) :
    op.shift v c = (BitVec.ofNat 8 (v.toNat / 2 + 128 * (op.enters v c).toNat), v.getLsbD 0) := by
  cases op with
  | rlc | rl | sla => cases h
  | rrc | rr | sra | srl => rfl

/-- Every operation moves every bit one place (R340). -/
theorem ShiftOp.shift_shifted (op : ShiftOp) (v : Byte) (c : Bool) :
    Shifted op v c (op.shift v c).1 (op.shift v c).2 := by
  refine ⟨fun h => ?_, fun h => ?_⟩
  · rw [ShiftOp.shift_of_left h, ofNat_double_add_bit]
    refine ⟨fun k hk => ?_, ?_, rfl⟩
    · simp [Nat.succ_lt_succ hk]
    · simp
  · rw [ShiftOp.shift_of_right h, ofNat_half_add_bit]
    refine ⟨fun k hk => ?_, ?_, rfl⟩
    · have below : 1 + k ≠ 8 := by omega
      rw [BitVec.getLsbD_extractLsb', BitVec.getLsbD_cons, if_neg below, Nat.add_comm 1 k]
      simp [Nat.lt_succ_of_lt hk]
    · rw [BitVec.getLsbD_extractLsb', BitVec.getLsbD_cons, if_pos rfl]
      simp

/-! ### The flags and the operands (R341) -/

/-- The flags of a CB-table rotate or shift: C is the bit that left (R341). -/
theorem ShiftOp.compute_flags (op : ShiftOp) (v : Byte) (c d5 d3 : Bool) (f : Flags) :
    FlagsAre ((op.compute v c).flags.apply d5 d3 f) (op.compute v c).res.msb ((op.compute v c).res == 0) false
      (evenOnes (op.compute v c).res) false (op.shift v c).2 :=
  ⟨bit7_eq_msb _, (beq_eq_decide _ 0).symm, rfl, parity_eq_evenOnes _, rfl, rfl⟩

/-- The CB-table rotates and shifts are one meaning (R346 to R366). -/
theorem shiftOperand_meaning {f : Family} {s : State} {op : ShiftOp} {o : Operand} (h : shiftOperand f s = some (op, o)) :
    f.exec s = o.update (fun v => op.compute v s.main.f.c) f.encoding.length s ∧ f.plain = true := by
  cases f with
  | shiftR | shiftHl | shiftIdx => cases h; exact ⟨rfl, rfl⟩
  | _ => cases h

/-! ### The digit rotates (R367, R368) -/

/-- A and the byte to write, from the 12-bit number `q` whose top digit goes to A and whose low byte is written. -/
def digitsOf (a : Byte) (q : Nat) : Byte × Byte :=
  (trunc8 (a.toNat / 16 * 16 + q / 256 : Nat), trunc8 (q % 256 : Nat))

/-- RLD rotates the 12-bit number four places to the left: its top digit comes in below the byte (R367). -/
theorem rldDigits_eq (a t : Byte) {v : Nat} (hv : v = a.toNat % 16 * 256 + t.toNat) :
    rldDigits a t = digitsOf a (v * 16 % 4096 + v / 256) := by
  have := t.isLt
  have hmoved : v * 16 % 4096 = t.toNat * 16 := by omega
  have hentering : v / 256 = a.toNat % 16 := by omega
  simp only [rldDigits, digitsOf, trunc8_natCast, hmoved, hentering]
  congr 2 <;> omega

/-- RRD rotates the 12-bit number four places to the right: its lowest digit comes in at the top (R368). -/
theorem rrdDigits_eq (a t : Byte) {v : Nat} (hv : v = a.toNat % 16 * 256 + t.toNat) :
    rrdDigits a t = digitsOf a (v / 16 + v % 16 * 256) := by
  have := t.isLt
  have hmoved : v / 16 = a.toNat % 16 * 16 + t.toNat / 16 := by omega
  have hentering : v % 16 = t.toNat % 16 := by omega
  simp only [rrdDigits, digitsOf, trunc8_natCast, hmoved, hentering]
  congr 2 <;> omega

/-- An instruction whose meaning is `rotateDigits` changes A, the byte at HL, the flags and PC alone (R367, R368). -/
theorem exec_rotateDigits {i : Instr} {s : State} {g : Byte → Byte → Byte × Byte} {r : Byte × Byte} {f : Family}
    (hf : i.family = f) (hx : f.exec s = rotateDigits g s) (hr : g s.main.a (s.readValue (.mem s.hl)) = r)
    (hn : f.encoding.length = 2) (hp : f.plain = true)
    (hc : s.bus.readError (.mem s.hl) = none ∧ s.bus.writeError (.mem s.hl) = none) :
    ∃ t, exec i s = .next t ∧ t.main.a = r.1 ∧ t.bus = ((s.sawRead (.mem s.hl)).sawWrite (.mem s.hl) r.2).bus ∧
      FlagsAre t.main.f t.main.a.msb (t.main.a == 0) false (evenOnes t.main.a) false s.main.f.c ∧ t.pc = nextPc i s ∧
      Frame { Changed.none with regs := [.a], flags := true, bytes := [.mem s.hl] } s t ∧ ControlFrame s t := by
  subst hf
  have he := exec_of_family rfl (hx.trans (rotateDigits_ok g hc.1 hc.2))
  rw [hr] at he
  have hflags := setF_resultFlags (((s.sawRead (.mem s.hl)).sawWrite (.mem s.hl) r.2).setReg8 .a r.1) r.1
  rw [State.setReg8_f, State.sawWrite_main, State.sawRead_main] at hflags
  exact ⟨_, he, rfl, rfl, hflags, by simp [nextPc_family, hn],
    (((((Frame.refl _ s).sawRead _).sawWrite (List.mem_singleton_self _) _).setReg8 (List.mem_singleton_self _) _).setF
      rfl _).advance 2, controlFrame_of_plain hp he⟩

end Sys2Proof.Machine

namespace Sys2Proof.Settled

open Sys2Proof Sys2Proof.Machine

/-- Settles O51: the accumulator rotates are `putA` and the others update their operand, both with `ShiftOp.shift`. -/
theorem rotatesAndShifts : Obligations.RotatesAndShifts := by
  unfold Obligations.RotatesAndShifts
  refine ⟨fun i s op hf => ?_, fun i s op o h hc => ?_⟩
  · obtain ⟨t, d5, d3, he, ha, hflags, hpc, hbus, hcontrol, hframe⟩ := exec_putA hf
      (x := ⟨(op.shift s.main.a s.main.f.c).1, accumulatorFlags (op.shift s.main.a s.main.f.c).2⟩) rfl rfl
    have hcarry : t.main.f.c = (op.shift s.main.a s.main.f.c).2 := congrArg Flags.c hflags
    have hshifted : Shifted op s.main.a s.main.f.c t.main.a t.main.f.c := by
      rw [ha, hcarry]
      exact op.shift_shifted ..
    exact ⟨t, he, hshifted, hcarry ▸ carryFlagsAre_of_apply hflags rfl rfl rfl, hpc, hbus, hframe, hcontrol⟩
  · obtain ⟨hm, hp⟩ := shiftOperand_meaning h
    obtain ⟨t, d5, d3, he, hw, hflags, ht⟩ := exec_update hm hp rfl hc
    have hcarry : t.main.f.c = (op.shift (o.value s) s.main.f.c).2 := congrArg Flags.c hflags
    exact ⟨t, _, he, hcarry ▸ op.shift_shifted .., hw, hcarry ▸ hflags ▸ op.compute_flags .., ht⟩

/-- Settles O52: both are `rotateDigits`, and their digits are those of the rotated 12-bit number. -/
theorem digitRotates : Obligations.DigitRotates := by
  unfold Obligations.DigitRotates
  intro i s v q hf hc hv hq
  rcases hf with hf | hf
  · rw [Completes, hf] at hc
    rw [if_pos hf] at hq
    exact hq ▸ exec_rotateDigits hf rfl (rldDigits_eq _ _ hv) rfl rfl (firstError_two hc)
  · rw [Completes, hf] at hc
    rw [if_neg (by rw [hf]; decide)] at hq
    exact hq ▸ exec_rotateDigits hf rfl (rrdDigits_eq _ _ hv) rfl rfl (firstError_two hc)

end Sys2Proof.Settled
end

section
/-! SUPPORT. The proofs of the statements on single bits (47_bit.md): an operand that is only read, and one that is written
back with one bit changed and no flag. -/

namespace Sys2Proof.Machine

/-! ### The bit test (R380 to R382) -/

/-- The state in which the operand has been read. -/
def Operand.read (o : Operand) (s : State) : State :=
  match o with
  | .reg _ => s
  | .mem a => s.sawRead (.mem a)

@[simp] theorem Operand.read_pc (o : Operand) (s : State) : (o.read s).pc = s.pc := by
  cases o with
  | reg r => rfl
  | mem a => exact s.sawRead_pc _

theorem Operand.read_main (o : Operand) (s : State) : (o.read s).main = s.main := by
  cases o with
  | reg r => rfl
  | mem a => exact s.sawRead_main _

theorem Operand.read_onlyRead (o : Operand) (s : State) : o.OnlyRead s (o.read s) := by
  cases o with
  | reg r | mem a => rfl

/-- `OnlyRead` speaks of the bus alone. -/
theorem Operand.OnlyRead.of_bus_eq {o : Operand} {s t u : State} (h : o.OnlyRead s t) (hb : u.bus = t.bus) :
    o.OnlyRead s u := by
  cases o with
  | reg r | mem a => exact hb.trans h

theorem Operand.read_frame (o : Operand) (c : Changed) (s : State) : Frame c s (o.read s) := by
  cases o with
  | reg r => exact .refl c s
  | mem a => exact (Frame.refl c s).sawRead _

/-- A draw is no part of the frame (R37). -/
theorem Frame.draw {c : Changed} {s t : State} (h : Frame c s t) (n : Nat) : Frame c s { t with draws := n } :=
  { h with index := h.index }

/-- Every operand form is `testBit` once the operand is read (R380 to R382). -/
theorem bitOperand_meaning {f : Family} {s : State} {b : Fin 8} {o : Operand} (h : bitOperand f s = some (b, o))
    (hc : firstError s.bus (accesses f s) = none) :
    f.exec s = testBit b (o.value s) f.encoding.length (o.read s) ∧ f.plain = true := by
  cases f with
  | bitR => cases h; exact ⟨rfl, rfl⟩
  | bitHl | bitIdx =>
    cases h
    have hr : s.bus.readError _ = none := firstError_one hc
    exact ⟨by rw [Family.exec, testMem_eq, hr]; rfl, rfl⟩
  | _ => cases h

/-! ### The bit set and reset (R383 to R388) -/

/-- SET for `true`, RES for `false` (R383, R386). -/
def writeBit (up : Bool) (b : Fin 8) : Byte → Byte := if up then setBit b else resBit b

/-- Exactly the named bit is written (R383, R386). -/
theorem writeBit_bits (up : Bool) (b : Fin 8) (v : Byte) (k : Nat) (hk : k < 8) :
    (writeBit up b v).getLsbD k = if k = b.val then up else v.getLsbD k := by
  cases up with
  | false => exact resBit_bits b v k hk
  | true => exact setBit_bits b v k hk

/-- A read, change and write back without flags, served (R86). -/
theorem changeByte_ok (g : Byte → Byte) (len : Nat) {a : Word} {s : State}
    (h : s.bus.readError (.mem a) = none ∧ s.bus.writeError (.mem a) = none) :
    changeByte g a len s = .next (((s.sawRead (.mem a)).sawWrite (.mem a) (g (s.readValue (.mem a)))).advance len) := by
  rw [changeByte_eq, h.1, h.2]

/-- Every operand form writes the changed bit back to its operand and moves on (R383 to R388). -/
theorem setResOperand_meaning {f : Family} {s : State} {up : Bool} {b : Fin 8} {o : Operand}
    (h : setResOperand f s = some (up, b, o)) (hc : firstError s.bus (accesses f s) = none) :
    f.exec s = .next ((o.write (writeBit up b (o.value s)) s).advance f.encoding.length) ∧ f.plain = true := by
  cases f with
  | setR | resR => cases h; exact ⟨rfl, rfl⟩
  | setHl | setIdx | resHl | resIdx => cases h; exact ⟨changeByte_ok _ _ (firstError_two hc), rfl⟩
  | _ => cases h

/-- What has been written is there, also after the move to the next instruction. -/
theorem Operand.write_advance_wrote (o : Operand) (v : Byte) (n : Nat) (s : State) :
    o.Wrote v s ((o.write v s).advance n) := by
  cases o with
  | reg r => exact ⟨by simp [Operand.write], rfl⟩
  | mem a => rfl

end Sys2Proof.Machine

namespace Sys2Proof.Settled

open Sys2Proof Sys2Proof.Machine

/-- Settles O53: every form is `testBit` on the operand read, whose flags are `bitFlags`. -/
theorem bitTest : Obligations.BitTest := by
  unfold Obligations.BitTest
  intro i s b o h hc
  obtain ⟨hm, hp⟩ := bitOperand_meaning h hc
  have he := (exec_family i s).trans hm
  exact ⟨_, he, rfl, rfl, rfl, congrArg (·.f.c) (o.read_main s), by simp [nextPc_family],
    (o.read_onlyRead s).of_bus_eq rfl, (((o.read_frame _ s).draw _).setF rfl _).advance _, controlFrame_of_plain hp he⟩

/-- Settles O54: every form writes its operand back with the named bit changed, and moves on. -/
theorem bitSetReset : Obligations.BitSetReset := by
  unfold Obligations.BitSetReset
  intro i s up b o h hc
  obtain ⟨hm, hp⟩ := setResOperand_meaning h hc
  have he := (exec_family i s).trans hm
  exact ⟨_, _, he, writeBit_bits up b _, o.write_advance_wrote _ _ s, by simp [nextPc_family],
    (o.write_frame _ false s).advance _, controlFrame_of_plain hp he⟩

end Sys2Proof.Settled
end

section
/-! SUPPORT. The proofs of the statements on jumps, calls and returns (48_jump_call.md): a jump that is taken or not, a call
by what it pushes and where it goes, and the state in which a return has popped PC. -/

namespace Sys2Proof.Machine

/-! ### The jumps (R400 to R407) -/

/-- The target of a relative jump, in the integers (R113). -/
theorem State.relative_eq (s : State) (e : Int) : s.relative e = trunc16 (s.pc.toNat + 2 + e) :=
  (Settled.indexedAddress s .ix 0 e).2

/-- A jump under a condition, which is read off the byte F: its whole next state (R400, R402, R404). -/
theorem exec_jumpIf {i : Instr} {s : State} {cc : Cond} {a : Word} {f : Family} (hf : i.family = f)
    (hx : f.exec s = .next (if s.cond cc then s.jump a else s.advance f.encoding.length)) :
    exec i s = .next { s with pc := if cc.met s.main.f then a else nextPc i s } := by
  rw [exec_of_family hf hx, nextPc_family, hf, State.cond_eq_met]
  cases cc.met s.main.f <;> rfl

/-- An instruction that is not taken only advances PC (R402, R404, R409, R411). -/
theorem exec_not_taken {i : Instr} {s : State} {f : Family} (hf : i.family = f)
    (hx : f.exec s = .next (s.advance f.encoding.length)) : exec i s = .next { s with pc := nextPc i s } :=
  (exec_advance hf hx rfl).2

/-- DJNZ counts B and goes to its target while B has not run out (R407). -/
theorem countB_eq (e : Int) (s : State) :
    countB e s = .next ((s.setReg8 .b (s.main.b - 1)).jump (if s.main.b - 1 ≠ 0 then s.relative e else s.pc + 2)) := by
  unfold countB
  split <;> rfl

theorem Frame.jump {c : Changed} {s t : State} (h : Frame c s t) (a : Word) : Frame c s (t.jump a) :=
  { h with index := h.index }

/-! ### The calls (R408, R409, R414) -/

/-- A call that is taken, served: CALL nn, CALL cc,nn whose condition holds, and RST p (R408, R409, R414). -/
theorem callTo_meaning {f : Family} {s : State} {target : Word}
    (h : f = .call target ∨ (∃ cc, f = .callCc cc target ∧ cc.met s.main.f = true) ∨
      ∃ p, f = .rst p ∧ target = trunc16 (8 * p.val : Nat)) :
    f.exec s = callTo target f.encoding.length s ∧
      accesses f s = wantPush (s.pc + BitVec.ofNat 16 f.encoding.length) s ∧ f.plain = true := by
  rcases h with rfl | ⟨cc, rfl, hc⟩ | ⟨p, rfl, rfl⟩
  · exact ⟨rfl, rfl, rfl⟩
  · rw [← State.cond_eq_met] at hc
    exact ⟨if_pos hc, if_pos hc, rfl⟩
  · rw [trunc16_natCast]
    exact ⟨rfl, rfl, rfl⟩

/-! ### The returns (R410 to R413) -/

/-- The state in which a return has popped PC (R410). -/
def State.returned (s : State) : State := ((s.sawReadWord s.sp).setSp (s.sp + 2)).jump (s.readWord s.sp)

theorem State.returned_frame (s : State) : Frame { Changed.none with sp := true } s s.returned :=
  (((Frame.refl _ s).sawReadWord _).setSp rfl _).jump _

theorem State.returned_controlFrame (s : State) : ControlFrame s s.returned :=
  (((((Writes.refl s).sawRead _).sawRead _).setSp _).jump _).fields.1

/-- The returns that are taken read the word at SP; RETI and RETN are `returnFromInterrupt`, the others `returnTo`
(R410 to R413). -/
theorem return_meaning {f : Family} {s : State}
    (h : f = .ret ∨ f = .reti ∨ f = .retn ∨ ∃ cc, f = .retCc cc ∧ cc.met s.main.f = true) :
    f.exec s = (if f = .reti ∨ f = .retn then returnFromInterrupt s else returnTo s) ∧ accesses f s = wantRead16 s.sp := by
  rcases h with rfl | rfl | rfl | ⟨cc, rfl, hc⟩
  · exact ⟨rfl, rfl⟩
  · exact ⟨rfl, rfl⟩
  · exact ⟨rfl, rfl⟩
  · rw [← State.cond_eq_met] at hc
    exact ⟨if_pos hc, if_pos hc⟩

/-- A return that is taken, served: RETI and RETN copy IFF2 into IFF1 (R410 to R413). -/
theorem exec_return {i : Instr} {s : State} (hc : Completes i s)
    (h : i.family = .ret ∨ i.family = .reti ∨ i.family = .retn ∨ ∃ cc, i.family = .retCc cc ∧ cc.met s.main.f = true) :
    exec i s = .next { s.returned with iff1 := if i.family = .reti ∨ i.family = .retn then s.iff2 else s.iff1 } := by
  obtain ⟨hm, ha⟩ := return_meaning h
  rw [Completes, ha] at hc
  obtain ⟨h0, h1⟩ := firstError_two hc
  rw [exec_family, hm]
  split
  · rw [returnFromInterrupt_ok h0 h1]
    rfl
  · rw [returnTo_ok h0 h1, ← s.returned_controlFrame.iff1]
    rfl

end Sys2Proof.Machine

namespace Sys2Proof.Settled

open Sys2Proof Sys2Proof.Machine

/-- Settles O55: a jump goes to its target, under a condition or not; DJNZ goes on while B has not run out. -/
theorem jumps : Obligations.Jumps := by
  unfold Obligations.Jumps
  intro i s
  simp only [← State.relative_eq]
  refine ⟨fun nn hf => exec_of_family hf rfl, fun cc nn hf => exec_jumpIf hf rfl, fun e hf => exec_of_family hf rfl,
    fun cc e hf => exec_jumpIf hf rfl, fun hf => exec_of_family hf rfl, fun x hf => exec_of_family hf rfl, fun e hf => ?_⟩
  have he := exec_of_family hf (countB_eq e s)
  exact ⟨_, he, byte_sub_one s.main.b, by rw [nextPc_family, hf]; rfl, rfl,
    ((Frame.refl _ s).setReg8 (List.mem_singleton_self _) _).jump _, controlFrame_of_plain (by rw [hf]; rfl) he⟩

/-- Settles O56: a call that is taken is `callTo`; one that is not only advances PC. -/
theorem calls : Obligations.Calls := by
  unfold Obligations.Calls
  intro i s hc
  refine ⟨fun target h => ?_, fun cc nn hf hm => exec_not_taken hf (if_neg ?_)⟩
  · obtain ⟨hm, ha, hp⟩ := callTo_meaning h
    rw [Completes, ha] at hc
    obtain ⟨h0, h1⟩ := firstError_two hc
    have he := (exec_family i s).trans (hm.trans (callTo_ok target _ h0 h1))
    rw [← nextPc_family] at he
    exact ⟨_, he, rfl, (word_sub_two s.sp).symm, rfl, fun hcan hd => storedWord_of_bus rfl hcan hd,
      (((Frame.refl _ s).setSp rfl _).sawWriteWord (by simp) (by simp) _).jump _, controlFrame_of_plain hp he⟩
  · rw [State.cond_eq_met, hm]
    nofun

/-- Settles O57: a return that is taken pops PC, and RETI and RETN then copy IFF2; one that is not only advances PC. -/
theorem returns : Obligations.Returns := by
  unfold Obligations.Returns
  intro i s hc
  refine ⟨fun h => ⟨_, exec_return hc h, rfl, (word_add_two s.sp).symm, rfl, rfl, ?_, ?_⟩,
    fun cc hf hm => exec_not_taken hf (if_neg ?_)⟩
  · exact { s.returned_frame with index := s.returned_frame.index }
  · exact { s.returned_controlFrame with iff1 := rfl }
  · rw [State.cond_eq_met, hm]
    nofun

end Sys2Proof.Settled
end

section
/-! SUPPORT. The proof of the statement on block input and output (49_io.md): the updates that end a step, which both
directions share. -/

namespace Sys2Proof.Machine

/-- The end of a block input or output step: HL steps, B becomes `b`, and the flags are written (R430). -/
def State.counted (dir : Dir) (b : Byte) (hl : Word) (s : State) : State :=
  ((s.setHl (dir.step hl)).setReg8 .b b).setBlockFlags

@[simp] theorem State.counted_pc (dir : Dir) (b : Byte) (hl : Word) (s : State) : (s.counted dir b hl).pc = s.pc := rfl

/-- What a block input or output step changes: B, HL, the flags and the place it writes (R430). -/
def Changed.blockIO (p : Place) : Changed :=
  { Changed.none with regs := [.b, .h, .l], flags := true, bytes := [p] }

theorem Frame.counted {s t : State} {p : Place} (h : Frame (Changed.blockIO p) s t) (dir : Dir) (b : Byte) (hl : Word) :
    Frame (Changed.blockIO p) s (t.counted dir b hl) :=
  (((h.setPair_of_mem (p := .hl) (by simp [Pair.regs, Changed.blockIO]) nofun _).setReg8
    (by simp [Changed.blockIO]) _).draw _).setF rfl _

/-- A block input or output step that is served: its accesses led to `u`, the last of them a write at `p` (R430). -/
theorem exec_blockIO {i : Instr} {s u : State} {dir : Dir} {rep : Bool} {f : Family} {p : Place} (hf : i.family = f)
    (hx : f.exec s = blockEnd (rep && decide (s.main.b - 1 ≠ 0)) (u.counted dir (s.main.b - 1) s.hl))
    (hn : f.encoding.length = 2) (hp : f.plain = true) (hpc : u.pc = s.pc) (hu : Frame (Changed.blockIO p) s u) :
    ∃ t, exec i s = .next t ∧ t.main.b = trunc8 ((s.main.b.toNat : Int) - 1) ∧ t.hl = trunc16 (s.hl.toNat + dir.delta) ∧
      t.main.f.z = (t.main.b == 0) ∧ t.pc = (if rep = true ∧ t.main.b ≠ 0 then s.pc else nextPc i s) ∧ t.bus = u.bus ∧
      Frame (Changed.blockIO p) s t ∧ ControlFrame s t := by
  obtain ⟨_, he, rfl, h⟩ := exec_blockEnd hf hx hn hp hpc (hu.counted dir _ _)
  have again : (rep && decide (s.main.b - 1 ≠ 0)) = true ↔ rep = true ∧ s.main.b - 1 ≠ 0 := by
    rw [Bool.and_eq_true, decide_eq_true_iff]
  refine ⟨_, he, byte_sub_one s.main.b, ?_, (beq_eq_decide _ 0).symm, if_congr again rfl rfl, rfl, h⟩
  rw [← dir.step_eq]
  exact u.setHl_hl (dir.step s.hl)

/-- A block output step, served, in terms of its last updates: that B is counted before the port is written shows only in
their order (R439 to R442). -/
theorem blockOut_counted (dir : Dir) (rep : Bool) {s : State} (hr : s.bus.readError (.mem s.hl) = none)
    (hw : s.bus.writeError (.io s.main.c) = none) :
    blockOut dir rep s = blockEnd (rep && decide (s.main.b - 1 ≠ 0))
      (((s.sawRead (.mem s.hl)).sawWrite (.io s.main.c) (s.readValue (.mem s.hl))).counted dir (s.main.b - 1) s.hl) :=
  blockOut_ok dir rep hr hw

end Sys2Proof.Machine

namespace Sys2Proof.Settled

open Sys2Proof Sys2Proof.Machine

/-- Settles O60: both directions end in the same updates, after a read and a write with the places exchanged. -/
theorem blockInputOutput : Obligations.BlockInputOutput := by
  unfold Obligations.BlockInputOutput
  rintro i s dir rep (hf | hf) hc <;> rw [Completes, hf] at hc <;> obtain ⟨hr, hw⟩ := firstError_two hc
  · obtain ⟨t, he, hb, hhl, hz, hpc, hbus, hframe, hcontrol⟩ := exec_blockIO hf (blockIn_ok dir rep hr hw) rfl rfl
      (by simp) (((Frame.refl _ s).sawRead _).sawWrite (List.mem_singleton_self _) _)
    exact ⟨t, he, hb, hhl, hz, hpc, fun _ => ⟨hbus, hframe⟩, fun h => (nomatch hf.symm.trans h), hcontrol⟩
  · obtain ⟨t, he, hb, hhl, hz, hpc, hbus, hframe, hcontrol⟩ := exec_blockIO hf (blockOut_counted dir rep hr hw) rfl rfl
      (by simp) (((Frame.refl _ s).sawRead _).sawWrite (List.mem_singleton_self _) _)
    exact ⟨t, he, hb, hhl, hz, hpc, fun h => (nomatch hf.symm.trans h), fun _ => ⟨hbus, hframe⟩, hcontrol⟩

end Sys2Proof.Settled
end

section
/-! SUPPORT. The proofs of the statements on interrupts (60_exceptions.md): when one is due, the target of each mode, the
state after an acceptance, and that a boundary is used once. -/

namespace Sys2Proof.Machine

/-! ### When an interrupt is due (R512, R513, R519) -/

theorem nmiDue_of_pending {s : State} (hb : s.boundaryUsed = false) (hp : s.lines.nmiPending = true)
    (hs : s.lines.nmiSource = true) : nmiDue s = true := by simp [nmiDue, hb, hp, hs]

theorem nmiDue_eq_false {s : State} (h : (s.lines.nmiPending && s.lines.nmiSource) = false) : nmiDue s = false := by
  rw [nmiDue, h, Bool.false_and]

/-- An NMI that is due shuts an INT out (R511). -/
theorem intDue_eq_false_of_nmiDue {s : State} (h : nmiDue s = true) : intDue s = false := by
  rw [intDue, h, Bool.not_true, Bool.and_false]

theorem intDue_of_enabled {s : State} (hb : s.boundaryUsed = false) (hl : s.lines.intLine = true)
    (hs : s.lines.intSource = true) (h1 : s.iff1 = true) (he : s.eiShadow = false)
    (hn : (s.lines.nmiPending && s.lines.nmiSource) = false) : intDue s = true := by
  simp [intDue, nmiDue_eq_false hn, hb, hl, hs, h1, he]

/-- What shuts a maskable interrupt out (R512). -/
theorem intDue_eq_false_of_refused {s : State}
    (h : s.lines.intLine = false ∨ s.lines.intSource = false ∨ s.iff1 = false ∨ s.eiShadow = true) : intDue s = false := by
  rcases h with h | h | h | h <;> simp [intDue, h]

/-- Nothing is due at a boundary that has been used (R519). -/
theorem not_due_of_boundaryUsed {s : State} (h : s.boundaryUsed = true) : nmiDue s = false ∧ intDue s = false := by
  simp [nmiDue, intDue, h]

/-! ### What an acceptance is (R511) -/

theorem acceptInterrupt_nmi {s : State} (hf : s.fault = none) (hn : nmiDue s = true) : acceptInterrupt s = acceptNmi s := by
  simp only [acceptInterrupt, hf, hn, if_true]

theorem acceptInterrupt_int {s : State} (hf : s.fault = none) (hi : intDue s = true) : acceptInterrupt s = acceptInt s := by
  have hn : nmiDue s = false := by
    cases hn : nmiDue s with
    | false => rfl
    | true => exact absurd hi (by rw [intDue_eq_false_of_nmiDue hn]; nofun)
  simp [acceptInterrupt, hf, hn, hi]

/-- Where nothing is due, acceptance does nothing and the step is an engine call (R511, R575). -/
theorem accept_step_of_not_due {s : State} (hf : s.fault = none) (hn : nmiDue s = false) (hi : intDue s = false) :
    acceptInterrupt s = .next s ∧ step s = engineCall s :=
  ⟨by simp [acceptInterrupt, hf, hn, hi], step_quiet hf hn hi⟩

/-! ### Taking an interrupt, access by access (R504, R511) -/

section Taken

variable {target : State → Out (Word × State)} {s : State} {k : BusErrorKind}

theorem takeInterrupt_fails_low (h : s.bus.writeError (.mem (s.sp - 2)) = some k) :
    takeInterrupt target s = .fault (.busError k (.mem (s.sp - 2)) s.pc s.bus) := by
  rw [takeInterrupt_eq, h]

theorem takeInterrupt_fails_high (h0 : s.bus.writeError (.mem (s.sp - 2)) = none)
    (h1 : s.bus.writeError (.mem (s.sp - 2 + 1)) = some k) :
    takeInterrupt target s = .fault (.busError k (.mem (s.sp - 2 + 1)) s.pc
      (s.sawWrite (.mem (s.sp - 2)) (trunc8 s.pc.toNat)).bus) := by
  rw [takeInterrupt_eq, h0, h1, trunc8_lo]

theorem takeInterrupt_pushed (h0 : s.bus.writeError (.mem (s.sp - 2)) = none)
    (h1 : s.bus.writeError (.mem (s.sp - 2 + 1)) = none) :
    takeInterrupt target s = withValue (target s.pushed) fun v t => .next (t.jump v) := by
  rw [takeInterrupt_eq, h0, h1]

/-- A target that cannot be found ends the acceptance after the push. -/
theorem takeInterrupt_fails_target {r : Fault} (h0 : s.bus.writeError (.mem (s.sp - 2)) = none)
    (h1 : s.bus.writeError (.mem (s.sp - 2 + 1)) = none) (ht : target s.pushed = .fault r) :
    takeInterrupt target s = .fault r := by
  rw [takeInterrupt_pushed h0 h1, ht, withValue_fault]

/-- An acceptance whose accesses are served, its target `a` found with the bus at `b`: the whole next state (R511). -/
theorem takeInterrupt_ok {a : Word} {b : Bus} {d : Nat} (h0 : s.bus.writeError (.mem (s.sp - 2)) = none)
    (h1 : s.bus.writeError (.mem (s.sp - 2 + 1)) = none)
    (ht : target s.pushed = .next (a, { s.pushed with bus := b, draws := d })) :
    takeInterrupt target s = .next { s with
      pc := a, sp := s.sp - 2, written := { s.written with sp := true }, r := refresh s.r, halted := false,
      eiShadow := false, boundaryUsed := true, bus := b, draws := d } := by
  rw [takeInterrupt_pushed h0 h1, ht]
  rfl

/-- An acceptance that answers a state has pushed PC, found its target and jumped there. -/
theorem takeInterrupt_eq_next {t : State} (h : takeInterrupt target s = .next t) :
    ∃ v u, target s.pushed = .next (v, u) ∧ t = u.jump v := by
  rw [takeInterrupt_eq] at h
  split at h
  · cases h
  · split at h
    · cases h
    · obtain ⟨v, u, hx, hn⟩ := withValue_eq_next h
      exact ⟨v, u, hx, (Host.Outcome.next.inj hn).symm⟩

end Taken

/-! ### The target of each mode (R514 to R516) -/

/-- Where a maskable interrupt accepted in `s` goes: the address of the RST in mode 0, 0x0038 in mode 1, the word read at
I:data in mode 2 (R514 to R516). -/
def State.intTarget (s t : State) : Out (Word × State) :=
  match s.im with
  | .im0 => .next (BitVec.setWidth 16 (s.lines.intData &&& 0x38#8), t)
  | .im1 => .next (0x0038#16, t)
  | .im2 => memRead16 (cat s.i s.lines.intData) t

theorem State.intTarget_im0 {s : State} (h : s.im = .im0) :
    s.intTarget = fun t => .next (BitVec.setWidth 16 (s.lines.intData &&& 0x38#8), t) := by
  funext t
  simp only [State.intTarget, h]

theorem State.intTarget_im1 {s : State} (h : s.im = .im1) : s.intTarget = fun t => .next (0x0038#16, t) := by
  funext t
  simp only [State.intTarget, h]

theorem State.intTarget_im2 {s : State} (h : s.im = .im2) : s.intTarget = memRead16 (cat s.i s.lines.intData) := by
  funext t
  simp only [State.intTarget, h]

/-- Finding the target changes the bus and the draws alone. -/
theorem State.intTarget_keeps {s t u : State} {v : Word} (h : s.intTarget t = .next (v, u)) :
    u = { t with bus := u.bus, draws := u.draws } := by
  cases hm : s.im with
  | im0 => rw [intTarget_im0 hm] at h; cases h; rfl
  | im1 => rw [intTarget_im1 hm] at h; cases h; rfl
  | im2 =>
    rw [intTarget_im2 hm, memRead16_eq] at h
    split at h
    · cases h
    · split at h
      · cases h
      · cases h; exact t.sawReadWord_eq _

/-- The state that a maskable acceptance starts from: both flip-flops are clear (R512). -/
def State.masked (s : State) : State := { s with iff1 := false, iff2 := false }

/-- A maskable acceptance takes the interrupt, but for mode 0 with a byte that is no RST (R512, R514). -/
theorem acceptInt_eq {s : State} (h : s.im = .im0 → isRst s.lines.intData = true) :
    acceptInt s = takeInterrupt s.intTarget s.masked := by
  cases hm : s.im with
  | im0 => rw [acceptInt_im0 hm, if_pos (h hm), State.intTarget_im0 hm]; rfl
  | im1 => rw [acceptInt_im1 hm, State.intTarget_im1 hm]; rfl
  | im2 => rw [acceptInt_im2 hm, State.intTarget_im2 hm]; rfl

/-- In mode 0 a byte that is no RST ends the acceptance (R514). -/
theorem acceptInt_not_rst {s : State} (hm : s.im = .im0) (h : isRst s.lines.intData = false) :
    acceptInt s = .fault (.invalidOpcode [s.lines.intData] s.pc s.bus) := by
  rw [acceptInt_im0 hm, h]
  rfl

/-- The state that a non-maskable acceptance starts from: the pending bit and IFF1 are clear (R513). -/
def State.nmiTaken (s : State) : State := { s with lines := { s.lines with nmiPending := false }, iff1 := false }

theorem acceptNmi_eq (s : State) : acceptNmi s = takeInterrupt (fun t => .next (0x0066#16, t)) s.nmiTaken := rfl

section Target

variable {s t u : State} {v : Word} {k : BusErrorKind}

/-- The target that can be found, in a state `t` that the bus and the draws cannot tell from `u` (R514 to R516). -/
theorem State.intTarget_served (hb : t.bus = u.bus) (hd : t.draws = u.draws) (hv : v = cat s.i s.lines.intData)
    (h : s.im = .im2 → u.bus.readError (.mem v) = none ∧ u.bus.readError (.mem (v + 1)) = none) :
    ∃ a b d, s.intTarget t = .next (a, { t with bus := b, draws := d }) ∧
      (s.im = .im0 → a = trunc16 (8 * (s.lines.intData.toNat / 8 % 8 : Nat)) ∧ b = u.bus) ∧
      (s.im = .im1 → a = 0x0038#16 ∧ b = u.bus) ∧
      (s.im = .im2 → a = u.readWord v ∧ b = (u.sawReadWord v).bus) := by
  cases hm : s.im with
  | im0 => exact ⟨_, t.bus, t.draws, by rw [intTarget_im0 hm], fun _ => ⟨rst_target _, hb⟩, nofun, nofun⟩
  | im1 => exact ⟨_, t.bus, t.draws, by rw [intTarget_im1 hm], nofun, fun _ => ⟨rfl, hb⟩, nofun⟩
  | im2 =>
    obtain ⟨h0, h1⟩ := h hm
    rw [← hb] at h0 h1
    have found : s.intTarget t = .next (t.readWord v, t.sawReadWord v) := by
      rw [intTarget_im2 hm, ← hv, memRead16_ok h0 h1]
    rw [t.sawReadWord_eq v] at found
    exact ⟨_, _, _, found, nofun, nofun, fun _ => ⟨readWord_congr v hb hd, (sees_congr (wantRead16 v) hb hd).1⟩⟩

theorem State.intTarget_fails_low (hb : t.bus = u.bus) (hv : v = cat s.i s.lines.intData) (hm : s.im = .im2)
    (h : u.bus.readError (.mem v) = some k) : s.intTarget t = .fault (.busError k (.mem v) t.pc u.bus) := by
  rw [← hb] at h ⊢
  rw [intTarget_im2 hm, ← hv, memRead16_eq, h]

theorem State.intTarget_fails_high (hb : t.bus = u.bus) (hd : t.draws = u.draws) (hv : v = cat s.i s.lines.intData)
    (hm : s.im = .im2) (h0 : u.bus.readError (.mem v) = none) (h1 : u.bus.readError (.mem (v + 1)) = some k) :
    s.intTarget t = .fault (.busError k (.mem (v + 1)) t.pc (u.sawRead (.mem v)).bus) := by
  have read : (t.sawRead (.mem v)).bus = (u.sawRead (.mem v)).bus := (saw_congr (.read (.mem v)) hb hd).1
  rw [← hb] at h0 h1
  rw [intTarget_im2 hm, ← hv, memRead16_eq, h0, h1, ← read]

end Target

@[simp] theorem State.sawWriteWord_readError (s : State) (a v : Word) (p : Place) :
    (s.sawWriteWord a v).bus.readError p = s.bus.readError p := by
  rw [sawWriteWord, sawWrite_readError, sawWrite_readError]

/-! ### One acceptance at a boundary (R519) -/

/-- An acceptance uses the boundary (R519). -/
theorem acceptInterrupt_boundaryUsed {s t : State} (hf : s.fault = none) (hd : nmiDue s = true ∨ intDue s = true)
    (h : acceptInterrupt s = .next t) : t.boundaryUsed = true := by
  rcases hd with hn | hi
  · rw [acceptInterrupt_nmi hf hn] at h
    obtain ⟨v, u, hx, rfl⟩ := takeInterrupt_eq_next h
    cases hx
    rfl
  · rw [acceptInterrupt_int hf hi] at h
    by_cases hr : s.im = .im0 ∧ isRst s.lines.intData = false
    · rw [acceptInt_not_rst hr.1 hr.2] at h
      cases h
    · rw [acceptInt_eq (by simpa using hr)] at h
      obtain ⟨v, u, hx, rfl⟩ := takeInterrupt_eq_next h
      rw [State.intTarget_keeps hx]
      rfl

/-- Whatever the host does, the fault, the halted state and the use of the boundary stay (R510, R530). -/
theorem HostMove.foldl_keeps (moves : List HostMove) (s : State) :
    (moves.foldl (fun x m => m.apply x) s).fault = s.fault ∧ (moves.foldl (fun x m => m.apply x) s).halted = s.halted ∧
      (moves.foldl (fun x m => m.apply x) s).boundaryUsed = s.boundaryUsed := by
  induction moves generalizing s with
  | nil => exact ⟨rfl, rfl, rfl⟩
  | cons m moves ih =>
    obtain ⟨hf, hh, hb⟩ := m.apply_keeps s
    obtain ⟨kf, kh, kb⟩ := ih (m.apply s)
    exact ⟨kf.trans hf, kh.trans hh, kb.trans hb⟩

/-- The boundary after an engine call is a new one (R519). -/
theorem engineCall_boundaryUsed {s t : State} (h : engineCall s = .next t) : t.boundaryUsed = false := by
  unfold engineCall at h
  split at h
  · cases h
  · split at h
    · cases h
      rfl
    · obtain ⟨x, s1, -, he⟩ := withValue_eq_next h
      obtain ⟨-, -, -, -, -, -, -, -, -, hb, -⟩ := Settled.controlRegisterWriters x.1 _ t he
      exact hb

end Sys2Proof.Machine

namespace Sys2Proof.Settled

open Sys2Proof Sys2Proof.Machine

/-- Settles O13: an NMI that is due is taken, with the pending bit and IFF1 clear. -/
theorem nmiAcceptance : Obligations.NmiAcceptance := by
  unfold Obligations.NmiAcceptance
  intro s hf hb hp hs
  have due := nmiDue_of_pending hb hp hs
  rw [step_due hf (.inl due), acceptInterrupt_nmi hf due, acceptNmi_eq]
  refine ⟨rfl, fun k h => takeInterrupt_fails_low (s := s.nmiTaken) h,
    fun k h0 h1 => takeInterrupt_fails_high (s := s.nmiTaken) h0 h1,
    fun h0 h1 => ⟨_, takeInterrupt_ok (s := s.nmiTaken) h0 h1 rfl, ?_⟩⟩
  exact ⟨rfl, (word_sub_two s.sp).symm, rfl, rfl, rfl, rfl, rfl, rfl, rfl, rfl, rfl, rfl, rfl, rfl, rfl, hf, rfl, rfl⟩

/-- Settles O14: a maskable interrupt that is due is taken, with both flip-flops clear, to the target of its mode. -/
theorem intAcceptance : Obligations.IntAcceptance := by
  unfold Obligations.IntAcceptance
  rintro s u v hf hb hl hs h1 he hn hrst rfl hv
  have due := intDue_of_enabled hb hl hs h1 he hn
  have accept : acceptInterrupt s = takeInterrupt s.intTarget s.masked := by
    rw [acceptInterrupt_int hf due, acceptInt_eq fun hm => by rw [isRst_eq, decide_eq_true (hrst hm)]]
  rw [step_due hf (.inr due), accept]
  refine ⟨rfl, fun k h => takeInterrupt_fails_low (s := s.masked) h,
    fun k h0 h1 => takeInterrupt_fails_high (s := s.masked) h0 h1, fun h0 h1 => ?_⟩
  have pushed : s.masked.pushed.bus = (s.sawWriteWord (s.sp - 2) s.pc).bus := rfl
  refine ⟨fun k hm hk => ?_, fun k hm hk0 hk1 => ?_, fun hr => ?_⟩
  · exact takeInterrupt_fails_target (s := s.masked) h0 h1 (State.intTarget_fails_low pushed hv hm (by simpa using hk))
  · exact takeInterrupt_fails_target (s := s.masked) h0 h1
      (State.intTarget_fails_high pushed rfl hv hm (by simpa using hk0) (by simpa using hk1))
  · obtain ⟨a, b, d, found, m0, m1, m2⟩ := State.intTarget_served pushed rfl hv (by simpa using hr)
    exact ⟨_, takeInterrupt_ok (s := s.masked) h0 h1 found, m0, m1, m2, (word_sub_two s.sp).symm, rfl, rfl, rfl, rfl, rfl,
      rfl, rfl, rfl, rfl, rfl, rfl, rfl, hf, rfl, rfl⟩

/-- Settles O15: nothing is due at a used boundary or where INT is refused; a byte that is no RST ends a due one. -/
theorem interruptRefused : Obligations.InterruptRefused := by
  unfold Obligations.InterruptRefused
  intro s hf
  refine ⟨fun hb => ?_, fun hn hi => accept_step_of_not_due hf (nmiDue_eq_false hn) (intDue_eq_false_of_refused hi),
    fun hb hn hl hs h1 he hm hr => ?_⟩
  · obtain ⟨hn, hi⟩ := not_due_of_boundaryUsed hb
    exact accept_step_of_not_due hf hn hi
  · have due := intDue_of_enabled hb hl hs h1 he hn
    refine ⟨?_, step_due hf (.inr due)⟩
    rw [acceptInterrupt_int hf due, acceptInt_not_rst hm (by rw [isRst_eq, decide_eq_false hr])]

/-- Settles O16: the acceptance uses the boundary, the host cannot give it back, and an engine call ends at a new one. -/
theorem oneAcceptancePerBoundary : Obligations.OneAcceptancePerBoundary := by
  unfold Obligations.OneAcceptancePerBoundary
  refine ⟨fun s t hf hd h => ⟨(step_due hf hd).trans h, intDue_eq_false_of_nmiDue, ?_⟩, fun u v => engineCall_boundaryUsed⟩
  rintro moves u rfl
  obtain ⟨-, hh, -, ht⟩ := acceptInterrupt_next hf hd h
  obtain ⟨kf, kh, kb⟩ := HostMove.foldl_keeps moves t
  obtain ⟨hn, hi⟩ := not_due_of_boundaryUsed (kb.trans (acceptInterrupt_boundaryUsed hf hd h))
  obtain ⟨ha, hs⟩ := accept_step_of_not_due (kf.trans ht) hn hi
  exact ⟨ha, hs, kh.trans hh⟩

end Sys2Proof.Settled
end
